-- ==== Sys2Proof/Word.lean ====
section
/-! DEFINITION. The word type of CORE and its plainest arithmetic: every register is one 32-bit word
(`10_state.md` R20) and bit 0 is the least significant bit (`00_scope.md` R9). -/

namespace Sys2Proof

/-- One register of the register space (`00_scope.md` R6 "register width", R20). -/
abbrev Word := BitVec 32

/-- One byte of a word on the byte-addressed presentation of R61. -/
abbrev Byte := BitVec 8

/-- A word index of the register space, 9 bits (`20_memory.md` R60). -/
abbrev RegIndex := BitVec 9

/-- A value of the number format `NUM` on this hardware: a binary32 bit pattern (R7, R21). -/
abbrev F32 := Word

end Sys2Proof
end

