-- ==== Sys2Proof/Config.lean ====
section
/-! DEFINITION. The implementation parameters of `00_scope.md` R6 and R7 as one record, `Params`, which
every operation of the model takes as an argument, and the open values of this hardware as constants
with no body, of which nothing can be proved. Which record the machine runs with is
`Sys2Proof.Machine.hw` of Machine/Numbers.lean. -/

namespace Sys2Proof

/-- The two axes of the rotating frame; the first argument of `RES_COMP` (R6, R144). -/
inductive Axis where
  | d
  | q
  deriving DecidableEq, Repr

/-- The values of the parameter `HALL_GAIN_SEL` (R6, R187). -/
inductive GainSel where
  | primary
  | secondary
  deriving DecidableEq, Repr

/-- The places where a rule applies `clamp`. One free value stands at each (R11, X3): no two places of
one operation share a draw. -/
inductive ClampSite where
  | ramp      -- R162, the speed ramp
  | torque    -- R164, the torque reference
  | iq        -- R166, the q current reference
  | vd        -- R146, the d voltage
  | vq        -- R146, the q voltage
  | dutyA     -- R149, R274 phase a; also the DUTY command, R127
  | dutyB     -- R149, R274 phase b
  | dutyC     -- R149, R274 phase c
  deriving DecidableEq, Repr

/-- The operators whose result can be a NaN, named so that the open bits of that NaN may depend on the
operator that made it. -/
inductive NumOp where
  | add
  | sub
  | mul
  | div
  | ceil
  deriving DecidableEq, Repr

/-- `NUM` (R7): "a configuration record with a carrier type and these members". Literals enter through
`ofDecimal n d`, the number n/d; `ofInt` converts an unsigned integer register. -/
structure NumFormat (N : Type) where
  ofDecimal : Int → Nat → N
  pi : N
  invSqrt3 : N
  sqrt3 : N
  add : N → N → N
  sub : N → N → N
  neg : N → N
  mul : N → N → N
  div : N → N → N
  lt : N → N → Bool
  le : N → N → Bool
  eq : N → N → Bool
  abs : N → N
  max : N → N → N
  min : N → N → N
  ofInt : Nat → N
  ceil : N → N
  sin : N → N
  cos : N → N
  atan : N → N
  /-- `atan2 y x`, the ordinate first (R7, R217). -/
  atan2 : N → N → N

/-- The parameters of R6 over a number format. `freeClamp n p` is the value of an undefined `clamp` at
place `p` in draw `n` (R11, X3 "the result is a draw from NUM"). -/
structure Params (N : Type) extends NumFormat N where
  Ts : N
  resComp : Axis → N → N → N → N
  hallTestVec : BitVec 3 → N × N × N
  hallGainSel : GainSel
  freeClamp : Nat → ClampSite → N

namespace Config

/-- Any word, from which `hw.Ts` is made (R6: OPEN, `Ts > 0`; log entry 3). -/
opaque rawTs : F32

/-- `RES_COMP` (R6, R144): "a total function [...] of which nothing else may be assumed" (log entry 4). -/
opaque resComp : Axis → F32 → F32 → F32 → F32

/-- Any triple of words, from which `hw.hallTestVec` is made (R6, R273; log entry 5). -/
opaque rawHallTestVec : BitVec 3 → F32 × F32 × F32

/-- The value of an undefined `clamp` (R11, X3): free, one value per draw and place (log entry 6). -/
opaque freeClamp : Nat → ClampSite → F32

/-- R7: `sin` is total, "about which a model may assume nothing but that" (log entry 7). -/
opaque sin : F32 → F32
/-- R7, as `sin` (log entry 7). -/
opaque cos : F32 → F32
/-- R7, as `sin` (log entry 7). -/
opaque atan : F32 → F32
/-- R7, as `sin` (log entry 7). -/
opaque atan2 : F32 → F32 → F32

/-- Sign and payload of a NaN that an operator makes from these operands: IEEE 754 leaves both open
(log entry 8). A one-operand operator passes its operand twice. -/
opaque nanBits : NumOp → F32 → F32 → BitVec 23

/-- Whether `max` of two zeros of opposite sign gives the first operand: the spec does not say. That it
gives one of the two, and the same one whenever the operands are the same, is the model's DESIGN CHOICE
(log entry 9). -/
opaque maxTieFirst : F32 → F32 → Bool

/-- As `maxTieFirst` for `min`, a constant of its own: nothing ties the operand that `min` gives to the one
that `max` gives (log entry 9). -/
opaque minTieFirst : F32 → F32 → Bool

/-- `max` of operands of which one is a NaN: the spec states no result (log entry 9). -/
opaque maxUnordered : F32 → F32 → F32

/-- `min` of operands of which one is a NaN: the spec states no result (log entry 9). -/
opaque minUnordered : F32 → F32 → F32

end Config
end Sys2Proof
end

