-- ==== Sys2Proof/Machine/Binary32.lean ====
section
/-! DEFINITION. IEEE 754 binary32 with round-to-nearest-even, the default instance of `NUM`
(`00_scope.md` R7): each operator is one correctly rounded operation on bit patterns. A finite pattern
is an integer number of units of 2^-149, so each operator computes exactly in the integers and rounds
once, in `roundMag`. -/

namespace Sys2Proof.Machine.Binary32

/-- Bit 31. -/
def sign (w : F32) : Bool := w.getLsbD 31

/-- Bits 30 to 0 as a number. -/
def low31 (w : F32) : Nat := w.toNat % 2 ^ 31

/-- The biased exponent, bits 30 to 23. -/
def expo (w : F32) : Nat := low31 w / 2 ^ 23

/-- The fraction, bits 22 to 0. -/
def frac (w : F32) : Nat := w.toNat % 2 ^ 23

def isNaN (w : F32) : Bool := decide (0x7F800000 < low31 w)
def isInf (w : F32) : Bool := low31 w == 0x7F800000
def isFinite (w : F32) : Bool := decide (low31 w < 0x7F800000)

/-- The magnitude of the finite number whose bits 30 to 0 are `b`, in units of 2^-149. -/
def magOf (b : Nat) : Nat :=
  if b / 2 ^ 23 = 0 then b else (2 ^ 23 + b % 2 ^ 23) * 2 ^ (b / 2 ^ 23 - 1)

/-- The magnitude of a finite pattern in units of 2^-149. -/
def mag (w : F32) : Nat := magOf (low31 w)

/-- The value of a finite pattern in units of 2^-149. -/
def scaled (w : F32) : Int := if sign w then -(mag w : Int) else (mag w : Int)

/-- `num / den` rounded to the nearest integer, ties to even. -/
def roundHalfEven (num den : Nat) : Nat :=
  if 2 * (num % den) < den then num / den
  else if den < 2 * (num % den) then num / den + 1
  else num / den + num / den % 2

/-- Bits 30 to 0 of the magnitude `num / den` (in units of 2^-149) rounded to the nearest binary32, ties
to even; infinity where that overflows. `k` is the exponent of the unit in the last place, at least 0
(the subnormal range); a significand that rounds up to 2^24 carries into the exponent field. -/
def roundMag (num den : Nat) : Nat :=
  let k := Nat.log2 (num / den) - 23
  Nat.min (k * 2 ^ 23 + roundHalfEven num (den * 2 ^ k)) 0x7F800000

/-- The pattern of a sign and bits 30 to 0. -/
def pack (s : Bool) (b : Nat) : F32 := BitVec.ofNat 32 (b + if s then 2 ^ 31 else 0)

/-- The infinity of a sign. -/
def inf (s : Bool) : F32 := pack s 0x7F800000

/-- The quiet NaN an operator makes: sign and payload are open (log entry 8). -/
def nan (op : NumOp) (a b : F32) : F32 :=
  let p := Config.nanBits op a b
  pack (p.getLsbD 22) (0x7FC00000 + p.toNat % 2 ^ 22)

/-- The rounding of an exact integer multiple of 2^-149; a zero takes the sign given. -/
def ofScaled (x : Int) (zeroSign : Bool) : F32 :=
  if x = 0 then pack zeroSign 0 else pack (decide (x < 0)) (roundMag x.natAbs 1)

/-- Negation reverses the sign bit, of a NaN too (log entry 15). -/
def neg (a : F32) : F32 := a ^^^ 0x80000000#32

/-- The absolute value clears the sign bit, of a NaN too (log entry 15). -/
def abs (a : F32) : F32 := a &&& 0x7FFFFFFF#32

/-- The sum of operands neither of which is a NaN, `op` and `a`, `b` naming the operation for the NaN of
opposite infinities. The exact sum zero is +0, except of two -0 (log entry 15). -/
def addCore (op : NumOp) (a b x y : F32) : F32 :=
  if isInf x then
    if isInf y && (sign x != sign y) then nan op a b else x
  else if isInf y then y
  else ofScaled (scaled x + scaled y) (sign x && sign y)

def add (a b : F32) : F32 :=
  if isNaN a || isNaN b then nan .add a b else addCore .add a b a b

def sub (a b : F32) : F32 :=
  if isNaN a || isNaN b then nan .sub a b else addCore .sub a b a (neg b)

def mul (a b : F32) : F32 :=
  if isNaN a || isNaN b then nan .mul a b
  else if isInf a || isInf b then
    if low31 a == 0 || low31 b == 0 then nan .mul a b else inf (sign a != sign b)
  else pack (sign a != sign b) (roundMag (mag a * mag b) (2 ^ 149))

def div (a b : F32) : F32 :=
  if isNaN a || isNaN b then nan .div a b
  else if isInf a then
    if isInf b then nan .div a b else inf (sign a != sign b)
  else if isInf b then pack (sign a != sign b) 0
  else if low31 b == 0 then
    if low31 a == 0 then nan .div a b else inf (sign a != sign b)
  else pack (sign a != sign b) (roundMag (mag a * 2 ^ 149) (mag b))

/-- A number that orders the patterns other than NaNs as their values; the two zeros get one. -/
def key (a : F32) : Int := if sign a then -(low31 a : Int) else (low31 a : Int)

/-- Every comparison with a NaN is false (R241). -/
def lt (a b : F32) : Bool := !isNaN a && !isNaN b && decide (key a < key b)
def le (a b : F32) : Bool := !isNaN a && !isNaN b && decide (key a ≤ key b)
def eq (a b : F32) : Bool := !isNaN a && !isNaN b && decide (key a = key b)

/-- The larger operand (R7). For zeros of opposite sign the spec states no result: one of the two, which
one free and independent of `min`'s (DESIGN CHOICE, log entry 9). With a NaN the result is free. -/
def max (a b : F32) : F32 :=
  if lt a b then b
  else if lt b a then a
  else if eq a b then (if a = b || Config.maxTieFirst a b then a else b)
  else Config.maxUnordered a b

/-- The smaller operand (R7), open as `max` is, with free values of its own: `max` and `min` of the same two
zeros may give the same operand or different ones (DESIGN CHOICE, log entry 9). -/
def min (a b : F32) : F32 :=
  if lt a b then a
  else if lt b a then b
  else if eq a b then (if a = b || Config.minTieFirst a b then a else b)
  else Config.minUnordered a b

/-- The nearest number to the integer `n`. -/
def ofNat (n : Nat) : F32 := pack false (roundMag (n * 2 ^ 149) 1)

/-- The nearest number to `n / d`: the members `ofDecimal(literal)` of R7. -/
def ofDecimal (n : Int) (d : Nat) : F32 := pack (decide (n < 0)) (roundMag (n.natAbs * 2 ^ 149) d)

/-- The integer at or above `num / 2^149` in the direction of the sign. -/
def ceilMag (s : Bool) (m : Nat) : Nat :=
  if s then m / 2 ^ 149 else (m + (2 ^ 149 - 1)) / 2 ^ 149

/-- "the least integer-valued NUM not below its operand" (R7); a zero keeps the operand's sign
(log entry 15). -/
def ceil (a : F32) : F32 :=
  if isNaN a then nan .ceil a a
  else if isInf a then a
  else pack (sign a) (roundMag (ceilMag (sign a) (mag a) * 2 ^ 149) 1)

/-- The nearest binary32 to π (`95_test_vectors.md` section 0). -/
def pi : F32 := 0x40490FDB

/-- The nearest binary32 to 1/√3 (R12; log entry 10). -/
def invSqrt3 : F32 := 0x3F13CD3A

/-- The nearest binary32 to √3 (log entry 10). -/
def sqrt3 : F32 := 0x3FDDB3D7

/-- The default instance of `NUM` (R7). -/
def format : NumFormat F32 :=
  { ofDecimal := ofDecimal, pi := pi, invSqrt3 := invSqrt3, sqrt3 := sqrt3
    add := add, sub := sub, neg := neg, mul := mul, div := div
    lt := lt, le := le, eq := eq, abs := abs, max := max, min := min
    ofInt := ofNat, ceil := ceil
    sin := Config.sin, cos := Config.cos, atan := Config.atan, atan2 := Config.atan2 }

end Sys2Proof.Machine.Binary32
end

