-- ==== Sys2Proof/Machine/Numbers.lean ====
section
/-! DEFINITION. The functions the rules share over any number format: `clamp` (`00_scope.md` R11),
`wrap` (`41_transforms_modulation.md` R134), the three-operand `max` and `min`, the unit conversion
RPM2RAD (R12); and the parameters of this hardware, `hw`. -/

namespace Sys2Proof.Machine

/-- `clamp(v, lo, hi)` (R11). Where `hi < lo` or an operand is not comparable its value is `free`, a
draw of the number format (X3). -/
def clamp {N : Type} (P : Params N) (free v lo hi : N) : N :=
  if P.le lo hi && P.eq v v then
    if P.lt v lo then lo else if P.lt hi v then hi else v
  else free

/-- `wrap(x)` (R134; log entry 17). -/
def wrap {N : Type} (P : Params N) (x : N) : N :=
  let twoPi := P.mul (P.ofDecimal 2 1) P.pi
  P.sub x (P.mul (P.ceil (P.div (P.sub x P.pi) twoPi)) twoPi)

/-- `max(a,b,c)` is `max(max(a,b),c)` (R11). -/
def max3 {N : Type} (P : Params N) (a b c : N) : N := P.max (P.max a b) c

/-- `min(a,b,c)`, likewise (R11). -/
def min3 {N : Type} (P : Params N) (a b c : N) : N := P.min (P.min a b) c

/-- `RPM2RAD = 2π/60` (R12, R162). -/
def rpm2rad {N : Type} (P : Params N) : N := P.div (P.mul (P.ofDecimal 2 1) P.pi) (P.ofDecimal 60 1)

/-- The zero of the number format, the `0` of the rules. -/
def zero {N : Type} (P : Params N) : N := P.ofDecimal 0 1

/-- `w` where it lies in [0, 1], else 0: a map onto the words of [0, 1]. -/
def inUnit (w : F32) : F32 :=
  if Binary32.le 0 w && Binary32.le w 0x3F800000 then w else 0

/-- The parameters of this hardware (R6): `NUM` is binary32; `Ts` is open but positive and finite;
`HALL_TEST_VEC` is open but in [0, 1]; `HALL_GAIN_SEL` is `secondary`. `Ts` and the vectors are made from
words of which nothing is known, so that nothing follows of them but these bounds (log entries 3, 5). -/
def hw : Params F32 :=
  { toNumFormat := Binary32.format
    Ts := if Binary32.lt 0 Config.rawTs && Binary32.isFinite Config.rawTs then Config.rawTs
          else Binary32.ofDecimal 1 10000
    resComp := Config.resComp
    hallTestVec := fun k =>
      (inUnit (Config.rawHallTestVec k).1, inUnit (Config.rawHallTestVec k).2.1,
        inUnit (Config.rawHallTestVec k).2.2)
    hallGainSel := .secondary
    freeClamp := Config.freeClamp }

end Sys2Proof.Machine
end

