-- ==== Sys2Proof/Syntax.lean ====
section
/-! DEFINITION. The operations of CORE, one constructor for each of the 29 rows of the opcode map
(`30_encoding.md` R84), and the fields of a command word (R80). Operands are not in the command word
(R83), so no constructor carries any; the two variants of FOO_STEP are two rows and two constructors. -/

namespace Sys2Proof

/-- The CORE operation set (R84). -/
inductive Instr where
  | nop
  | initParams
  | initCc
  | initSc
  | initPll
  | initEemf
  | initFoo
  | updateGains
  | resetCtrl
  | clarke
  | park
  | ipark
  | iclarke
  | svmOffset
  | dtComp
  | duty
  | wrap
  | ccStep
  | scStep
  | torqueCtrl
  | hallStep
  | fooStepA
  | fooStepB
  | eemfStep
  | alignStep
  | swFaultCheck
  | hwFault
  | faultClear
  | cycle
  deriving DecidableEq, Repr

/-- The three fields of a command word (R80): `opc` bits 31 to 24, `var` bits 23 to 16, `rsv` bits 15
to 0. -/
structure CmdFields where
  opc : BitVec 8
  var : BitVec 8
  rsv : BitVec 16
  deriving DecidableEq, Repr

end Sys2Proof
end

