-- ==== Sys2Proof/WellFormed.lean ====
section
/-! DEFINITION. Which command words are legal (`30_encoding.md` R85), as three checks on the fields of
a word, written from R85's sentence and not from the decoder; Laws/Encoding.lean proves that the decoder
accepts exactly the words these checks accept. An `Instr` carries no operand (R83), so every one is
well formed. -/

namespace Sys2Proof

/-- R84: the operation codes of the map, in its order. "Codes not listed are illegal". -/
def CmdFields.knownOpcs : List (BitVec 8) :=
  [0x00, 0x01, 0x02, 0x03, 0x04, 0x05, 0x06, 0x07, 0x08] ++
  [0x10, 0x11, 0x12, 0x13, 0x14, 0x15, 0x16, 0x17] ++
  [0x20, 0x21, 0x22, 0x23, 0x24, 0x25, 0x26] ++
  [0x30, 0x31, 0x32] ++ [0x40]

/-- R85: the `opc` is in R84. -/
def CmdFields.opcKnown (f : CmdFields) : Bool := CmdFields.knownOpcs.contains f.opc

/-- R85: the `var` is one the operation admits: zero for format N, 0 or 1 for FOO_STEP (R81, R82). -/
def CmdFields.varAdmitted (f : CmdFields) : Bool :=
  if f.opc = 0x24 then f.var == 0 || f.var == 1 else f.var == 0

/-- R80, R85: the reserved bits are zero. -/
def CmdFields.rsvZero (f : CmdFields) : Bool := f.rsv == 0

/-- A legal command word (R85). -/
def CmdFields.wf (f : CmdFields) : Bool := f.opcKnown && f.varAdmitted && f.rsvZero

/-- Every operation is well formed: its operands are in registers (R83), not in the term. -/
def Instr.wf : Instr → Bool
  | _ => true

end Sys2Proof
end

