-- ==== Sys2Proof/Decode.lean ====
section
/-! DEFINITION. The decoder of command words (`30_encoding.md` R88), total on every 32-bit word and
refusing by name, and the encoder written from the same table (R80 to R84). -/

namespace Sys2Proof

/-- Why a command word is illegal (R85). -/
inductive Illegal where
  | reservedBits
  | unknownOpc
  | variantNotAdmitted
  deriving DecidableEq, Repr

/-- One row of the opcode map: format N (R81) or format V (R82, the operations of `var` 0 and 1). -/
inductive OpRow where
  | formatN (i : Instr)
  | formatV (i0 i1 : Instr)
  deriving DecidableEq, Repr

/-- `w[31:24]`, `w[23:16]`, `w[15:0]` (R80). -/
def fieldsOf (w : Word) : CmdFields :=
  { opc := w.extractLsb' 24 8, var := w.extractLsb' 16 8, rsv := w.extractLsb' 0 16 }

/-- R84: parameter and gain model, codes 0x0_. -/
def opRows0 : List (BitVec 8 × OpRow) :=
  [ (0x00, .formatN .nop), (0x01, .formatN .initParams), (0x02, .formatN .initCc),
    (0x03, .formatN .initSc), (0x04, .formatN .initPll), (0x05, .formatN .initEemf),
    (0x06, .formatN .initFoo), (0x07, .formatN .updateGains), (0x08, .formatN .resetCtrl) ]

/-- R84: transform and modulation engine, codes 0x1_. -/
def opRows1 : List (BitVec 8 × OpRow) :=
  [ (0x10, .formatN .clarke), (0x11, .formatN .park), (0x12, .formatN .ipark),
    (0x13, .formatN .iclarke), (0x14, .formatN .svmOffset), (0x15, .formatN .dtComp),
    (0x16, .formatN .duty), (0x17, .formatN .wrap) ]

/-- R84: controllers and observers, codes 0x2_. -/
def opRows2 : List (BitVec 8 × OpRow) :=
  [ (0x20, .formatN .ccStep), (0x21, .formatN .scStep), (0x22, .formatN .torqueCtrl),
    (0x23, .formatN .hallStep), (0x24, .formatV .fooStepA .fooStepB), (0x25, .formatN .eemfStep),
    (0x26, .formatN .alignStep) ]

/-- R84: fault supervisor, codes 0x3_, and dispatcher, 0x4_. -/
def opRows3 : List (BitVec 8 × OpRow) :=
  [ (0x30, .formatN .swFaultCheck), (0x31, .formatN .hwFault), (0x32, .formatN .faultClear),
    (0x40, .formatN .cycle) ]

/-- The opcode map (R84). -/
def opRows : List (BitVec 8 × OpRow) := opRows0 ++ opRows1 ++ opRows2 ++ opRows3

/-- The `var` step of R88. -/
def decodeVar (row : OpRow) (var : BitVec 8) : Except Illegal Instr :=
  match row with
  | .formatN i => if var = 0 then .ok i else .error .variantNotAdmitted
  | .formatV i0 i1 =>
      if var = 0 then .ok i0 else if var = 1 then .ok i1 else .error .variantNotAdmitted

/-- R88, in its order: the reserved bits, the operation code, the variant. -/
def decodeFields (f : CmdFields) : Except Illegal Instr :=
  if f.rsv ≠ 0 then .error .reservedBits
  else match opRows.lookup f.opc with
    | none => .error .unknownOpc
    | some row => decodeVar row f.var

/-- The decoder: "every 32-bit word gets exactly one verdict" (R88). -/
def decode (w : Word) : Except Illegal Instr := decodeFields (fieldsOf w)

/-- The operation code of R84. -/
def opcOf : Instr → BitVec 8
  | .nop => 0x00 | .initParams => 0x01 | .initCc => 0x02 | .initSc => 0x03 | .initPll => 0x04
  | .initEemf => 0x05 | .initFoo => 0x06 | .updateGains => 0x07 | .resetCtrl => 0x08
  | .clarke => 0x10 | .park => 0x11 | .ipark => 0x12 | .iclarke => 0x13 | .svmOffset => 0x14
  | .dtComp => 0x15 | .duty => 0x16 | .wrap => 0x17
  | .ccStep => 0x20 | .scStep => 0x21 | .torqueCtrl => 0x22 | .hallStep => 0x23
  | .fooStepA => 0x24 | .fooStepB => 0x24 | .eemfStep => 0x25 | .alignStep => 0x26
  | .swFaultCheck => 0x30 | .hwFault => 0x31 | .faultClear => 0x32 | .cycle => 0x40

/-- The variant of R84: 1 for FOO_STEP.B, 0 for every other row. -/
def varOf : Instr → BitVec 8
  | .fooStepB => 1
  | .nop | .initParams | .initCc | .initSc | .initPll | .initEemf | .initFoo | .updateGains
  | .resetCtrl | .clarke | .park | .ipark | .iclarke | .svmOffset | .dtComp | .duty | .wrap
  | .ccStep | .scStep | .torqueCtrl | .hallStep | .fooStepA | .eemfStep | .alignStep
  | .swFaultCheck | .hwFault | .faultClear | .cycle => 0

/-- The command word of an operation: `opc ## var ## 0x0000` (R81, R82). -/
def encode (i : Instr) : Word := opcOf i ++ varOf i ++ (0 : BitVec 16)

/-- The mnemonic of R84, the name R89 gives the command in a host program. -/
def mnemonicOf : Instr → String
  | .nop => "NOP" | .initParams => "INIT_PARAMS" | .initCc => "INIT_CC" | .initSc => "INIT_SC"
  | .initPll => "INIT_PLL" | .initEemf => "INIT_EEMF" | .initFoo => "INIT_FOO"
  | .updateGains => "UPDATE_GAINS" | .resetCtrl => "RESET_CTRL" | .clarke => "CLARKE"
  | .park => "PARK" | .ipark => "IPARK" | .iclarke => "ICLARKE" | .svmOffset => "SVM_OFFSET"
  | .dtComp => "DT_COMP" | .duty => "DUTY" | .wrap => "WRAP" | .ccStep => "CC_STEP"
  | .scStep => "SC_STEP" | .torqueCtrl => "TORQUE_CTRL" | .hallStep => "HALL_STEP"
  | .fooStepA => "FOO_STEP.A" | .fooStepB => "FOO_STEP.B" | .eemfStep => "EEMF_STEP"
  | .alignStep => "ALIGN_STEP" | .swFaultCheck => "SW_FAULT_CHECK" | .hwFault => "HW_FAULT"
  | .faultClear => "FAULT_CLEAR" | .cycle => "CYCLE"

/-- The command word whose bits below `nbits` are those of `w` and whose other bits are zero: a command
is one 32-bit word (R80), and bit 0 of the table is bit 0 of that word (R9). -/
def tableWord (nbits w : Nat) : Word := BitVec.ofNat 32 (w % 2 ^ nbits)

/-- What the decoder reads from a word of the opcode table. -/
def decodeTableWord (nbits w : Nat) : Option Instr :=
  match decode (tableWord nbits w) with
  | .ok i => some i
  | .error _ => none

end Sys2Proof
end

