-- ==== Sys2Proof/Machine/State.lean ====
section
/-! DEFINITION. The state of CORE as plain data: the register file of `10_state.md` group by group (the
"control context" of R20), over any carrier `N` of the number format (R7); the index of the next step of
a CYCLE in progress (R24, R44); and, as the model's own fields, the inputs the outside world has placed,
the last word a read returned and the draw counter of the free values. The machine's `State` is the one
over binary32 words. -/

namespace Sys2Proof.Machine

/-! ## The register groups of `10_state.md` -/

/-- Command, status, mode and cycle counter. `10_state.md` R25 to R27. -/
@[ext] structure Control where
  CMD : Word
  CMD_ILLEGAL : Bool
  MODE : Word
  CYCLE_CNT : Word
  deriving DecidableEq, Repr

/-- The argument registers. `10_state.md` R23. -/
@[ext] structure ArgRegs (N : Type) where
  (A0 A1 A2 A3 A4 A5 A6 A7 A8 A9 A10 A11 : N)
  deriving DecidableEq, Repr

/-- The result registers. `10_state.md` R23. -/
@[ext] structure ResRegs (N : Type) where
  (R0 R1 R2 R3 R4 R5 : N)
  deriving DecidableEq, Repr

/-- The motor and inverter parameter set. `10_state.md` R28. -/
@[ext] structure ParamSet (N : Type) where
  (Rs Ld Lq Lamf PP Jm Bm I_align I_rated I_limit Wrpm_rated Te_rated Kt INV_Kt : N)
  deriving DecidableEq, Repr

/-- The stored bandwidths. `10_state.md` R29. -/
@[ext] structure Bandwidths (N : Type) where
  (Wcc Wsc Wpll Wc_eemf Beta_foo : N)
  deriving DecidableEq, Repr

/-- The gains CORE derives. `10_state.md` R30. -/
@[ext] structure Gains (N : Type) where
  (Kpd Kid Kpq Kiq Kp_sc Ki_sc Kp_pll Ki_pll Kp_hall Ki_hall K1 K2 K3 Kp_eemf : N)
  Ki_eemf : N
  deriving DecidableEq, Repr

/-- The tunables HOST sets. `10_state.md` R30. -/
@[ext] structure Tunables (N : Type) where
  (Kad Kaq Ka_sc CC_LPF DT_A DT_B ACC_MAX T_ALIGN1 T_ALIGN2 : N)
  deriving DecidableEq, Repr

/-- The sample port and the gain corrections. `10_state.md` R31. -/
@[ext] structure Samples (N : Type) where
  (ADC_RAW0 ADC_RAW1 ADC_RAW2 ADC_RAW3 : BitVec 12)
  HALL_IN : BitVec 3
  (ADC_GAIN0 ADC_GAIN1 ADC_GAIN2 ADC_GAIN3 : N)
  deriving DecidableEq, Repr

/-- The offset calibration. `10_state.md` R31. -/
@[ext] structure Calibration (N : Type) where
  (ADC1_Offset0 ADC1_Offset1 ADC1_Offset2 OFFSET_SUM0 OFFSET_SUM1 OFFSET_SUM2 : N)
  CAL_CNT : Word
  CAL_DONE : Bool
  deriving DecidableEq, Repr

/-- The measured values. `10_state.md` R32. -/
@[ext] structure Measured (N : Type) where
  (Ia Ib Ic Vdc Vdc_lpf Idc : N)
  deriving DecidableEq, Repr

/-- The current controller, one group of seven per axis. `10_state.md` R33. -/
@[ext] structure CurrentCtrl (N : Type) where
  (Idsr_ref Idsr Idsr_err Vdsr_integ Vdsr_ref_unsat Vdsr_ref Vdsr_aw Iqsr_ref : N)
  (Iqsr Iqsr_err Vqsr_integ Vqsr_ref_unsat Vqsr_ref Vqsr_aw : N)
  deriving DecidableEq, Repr

/-- The other state of the current controller and the modulator. `10_state.md` R34. -/
@[ext] structure Modulator (N : Type) where
  (Idss Iqss Vdss_ref Vqss_ref Vas_ref Vbs_ref Vcs_ref Vsn Van_ref Vbn_ref : N)
  (Vcn_ref Iqsr_ref_unsat : N)
  deriving DecidableEq, Repr

/-- The selected angle and speed. `10_state.md` R34. -/
@[ext] structure Selected (N : Type) where
  (Thetar_sel Wr_sel : N)
  deriving DecidableEq, Repr

/-- The speed PI stage. `10_state.md` R35. -/
@[ext] structure SpeedCtrl (N : Type) where
  (Wrm_ref Wrm Wrm_err Te_integ Te_ref_unsat Te_ref Te_aw : N)
  deriving DecidableEq, Repr

/-- The Hall observer. `10_state.md` R36. -/
@[ext] structure HallObs (N : Type) where
  Hall_code : BitVec 3
  (Theta_hall_ref Theta_hall_err W_hall_integ Thetar_hall Wr_hall : N)
  deriving DecidableEq, Repr

/-- The full-order observer. `10_state.md` R37. -/
@[ext] structure FullOrderObs (N : Type) where
  (Thetarm_est Thetar_est Wrm_est Wrm_integ Te_est Te_ff Tl_integ Tl_est Thetarm_err : N)
  deriving DecidableEq, Repr

/-- The extended sensorless observer. `10_state.md` R38. -/
@[ext] structure EemfObs (N : Type) where
  (Vdss_ref_old Vqss_ref_old Vdse Vqse Idse Iqse Idse_est Iqse_est EEMFd_integ : N)
  (EEMFq_integ EEMFd_est EEMFq_est Err_Thetar : N)
  deriving DecidableEq, Repr

/-- The alignment state machine. `10_state.md` R39. -/
@[ext] structure Alignment (N : Type) where
  Align_stage : BitVec 2
  Align_time : N
  Align_done : Bool
  deriving DecidableEq, Repr

/-- The fault latch, counter and snapshot. `10_state.md` R43. -/
@[ext] structure FaultState (N : Type) where
  Fault_code : BitVec 2
  Fault_cnt : Word
  (F_Vdc F_Idc F_Ia F_Ib F_Ic F_Wr : N)
  deriving DecidableEq, Repr

/-- The setpoints. `10_state.md` R40. -/
@[ext] structure Setpoints (N : Type) where
  (Wrpm_cmd Torque_cmd Id_ol_ref Iq_ol_ref Vd_ol_ref Vq_ol_ref W_ol Theta_ol : N)
  (Duty_test_a Duty_test_b Duty_test_c : N)
  Hall_test_sel : BitVec 3
  deriving DecidableEq, Repr

/-- The outputs. `10_state.md` R41. -/
@[ext] structure Outputs (N : Type) where
  (Duty_a Duty_b Duty_c : N)
  PWM_EN : Bool
  deriving DecidableEq, Repr

/-- The whole register file (R20): "All state of CORE is one register file". -/
@[ext] structure Context (N : Type) where
  ctl : Control
  a : ArgRegs N
  r : ResRegs N
  par : ParamSet N
  bw : Bandwidths N
  gain : Gains N
  tun : Tunables N
  smp : Samples N
  cal : Calibration N
  meas : Measured N
  cc : CurrentCtrl N
  md : Modulator N
  sl : Selected N
  sc : SpeedCtrl N
  hall : HallObs N
  foo : FullOrderObs N
  eemf : EemfObs N
  al : Alignment N
  flt : FaultState N
  sp : Setpoints N
  out : Outputs N
  deriving DecidableEq, Repr

/-! ## All-zero groups: the reset values of R46, and what RESET_CTRL and INIT_CC write (R103, R109) -/

/-- Every register of the group zero. -/
def Control.zeros : Control :=
  ⟨0, false, 0, 0⟩

/-- Every register of the group zero, `z` being the zero of the number format. -/
def ArgRegs.zeros {N : Type} (z : N) : ArgRegs N :=
  ⟨z, z, z, z, z, z, z, z, z, z, z, z⟩

/-- Every register of the group zero, `z` being the zero of the number format. -/
def ResRegs.zeros {N : Type} (z : N) : ResRegs N :=
  ⟨z, z, z, z, z, z⟩

/-- Every register of the group zero, `z` being the zero of the number format. -/
def ParamSet.zeros {N : Type} (z : N) : ParamSet N :=
  ⟨z, z, z, z, z, z, z, z, z, z, z, z, z, z⟩

/-- Every register of the group zero, `z` being the zero of the number format. -/
def Bandwidths.zeros {N : Type} (z : N) : Bandwidths N :=
  ⟨z, z, z, z, z⟩

/-- Every register of the group zero, `z` being the zero of the number format. -/
def Gains.zeros {N : Type} (z : N) : Gains N :=
  ⟨z, z, z, z, z, z, z, z, z, z, z, z, z, z, z⟩

/-- Every register of the group zero, `z` being the zero of the number format. -/
def Tunables.zeros {N : Type} (z : N) : Tunables N :=
  ⟨z, z, z, z, z, z, z, z, z⟩

/-- Every register of the group zero, `z` being the zero of the number format. -/
def Samples.zeros {N : Type} (z : N) : Samples N :=
  ⟨0, 0, 0, 0, 0, z, z, z, z⟩

/-- Every register of the group zero, `z` being the zero of the number format. -/
def Calibration.zeros {N : Type} (z : N) : Calibration N :=
  ⟨z, z, z, z, z, z, 0, false⟩

/-- Every register of the group zero, `z` being the zero of the number format. -/
def Measured.zeros {N : Type} (z : N) : Measured N :=
  ⟨z, z, z, z, z, z⟩

/-- Every register of the group zero, `z` being the zero of the number format. -/
def CurrentCtrl.zeros {N : Type} (z : N) : CurrentCtrl N :=
  ⟨z, z, z, z, z, z, z, z, z, z, z, z, z, z⟩

/-- Every register of the group zero, `z` being the zero of the number format. -/
def Modulator.zeros {N : Type} (z : N) : Modulator N :=
  ⟨z, z, z, z, z, z, z, z, z, z, z, z⟩

/-- Every register of the group zero, `z` being the zero of the number format. -/
def Selected.zeros {N : Type} (z : N) : Selected N :=
  ⟨z, z⟩

/-- Every register of the group zero, `z` being the zero of the number format. -/
def SpeedCtrl.zeros {N : Type} (z : N) : SpeedCtrl N :=
  ⟨z, z, z, z, z, z, z⟩

/-- Every register of the group zero, `z` being the zero of the number format. -/
def HallObs.zeros {N : Type} (z : N) : HallObs N :=
  ⟨0, z, z, z, z, z⟩

/-- Every register of the group zero, `z` being the zero of the number format. -/
def FullOrderObs.zeros {N : Type} (z : N) : FullOrderObs N :=
  ⟨z, z, z, z, z, z, z, z, z⟩

/-- Every register of the group zero, `z` being the zero of the number format. -/
def EemfObs.zeros {N : Type} (z : N) : EemfObs N :=
  ⟨z, z, z, z, z, z, z, z, z, z, z, z, z⟩

/-- Every register of the group zero, `z` being the zero of the number format. -/
def Alignment.zeros {N : Type} (z : N) : Alignment N :=
  ⟨0, z, false⟩

/-- Every register of the group zero, `z` being the zero of the number format. -/
def FaultState.zeros {N : Type} (z : N) : FaultState N :=
  ⟨0, 0, z, z, z, z, z, z⟩

/-- Every register of the group zero, `z` being the zero of the number format. -/
def Setpoints.zeros {N : Type} (z : N) : Setpoints N :=
  ⟨z, z, z, z, z, z, z, z, z, z, z, 0⟩

/-- Every register of the group zero, `z` being the zero of the number format. -/
def Outputs.zeros {N : Type} (z : N) : Outputs N :=
  ⟨z, z, z, false⟩

/-- R46, R331: "After reset every register reads 0, except ADC_GAIN[0..3] = 1, ACC_MAX = 3000, T_ALIGN1 =
4, T_ALIGN2 = 5". The five values are arguments: they are values of the number format. -/
def Context.reset {N : Type} (z one accMax tAlign1 tAlign2 : N) : Context N :=
  {
    ctl := Control.zeros
    a := ArgRegs.zeros z
    r := ResRegs.zeros z
    par := ParamSet.zeros z
    bw := Bandwidths.zeros z
    gain := Gains.zeros z
    tun := { Tunables.zeros z with ACC_MAX := accMax, T_ALIGN1 := tAlign1, T_ALIGN2 := tAlign2 }
    smp := { Samples.zeros z with ADC_GAIN0 := one, ADC_GAIN1 := one, ADC_GAIN2 := one, ADC_GAIN3 := one }
    cal := Calibration.zeros z
    meas := Measured.zeros z
    cc := CurrentCtrl.zeros z
    md := Modulator.zeros z
    sl := Selected.zeros z
    sc := SpeedCtrl.zeros z
    hall := HallObs.zeros z
    foo := FullOrderObs.zeros z
    eemf := EemfObs.zeros z
    al := Alignment.zeros z
    flt := FaultState.zeros z
    sp := Setpoints.zeros z
    out := Outputs.zeros z }

/-! ## A CYCLE in progress -/

/-- The parts of one CYCLE in their order (R260), cut at the step boundaries and at the further points
of R285: M1, M2, M3 after S3a, S3b, S3c; Q1 after S7snap; Q2 after S7sel; P1 after S7run; P2 after
S7latch. -/
inductive Phase where
  | S1       -- R261
  | S2       -- R262
  | S3a      -- R263, or the write of Ia (R264)
  | S3b      -- the write of Ib
  | S3c      -- the write of Ic
  | S3d      -- the writes of Vdc_lpf and Vdc
  | S4       -- R265
  | S5       -- R266
  | S6       -- R267
  | S7snap   -- R269
  | S7sel    -- R268, R271
  | S7run    -- the behaviour, R272 to R281, up to its duty writes
  | S7latch  -- R286: the read of the latch
  | S7fin    -- R286: the write of PWM_EN; R230; R284
  | S8       -- R282
  deriving DecidableEq, Repr

/-- The values local to one cycle. -/
structure Locals where
  /-- The four codes read in S2 (R262). -/
  raw0 : BitVec 12
  raw1 : BitVec 12
  raw2 : BitVec 12
  raw3 : BitVec 12
  /-- This cycle's S3 converts (R264): CAL_DONE was 1 when S3 began. -/
  conv : Bool
  /-- The snapshot `m` of MODE and `f` of Fault_code (R269). -/
  m : Word
  f : BitVec 2
  /-- The behaviour ends in an enable request (R286). -/
  enReq : Bool
  /-- The alignment stage `st` the call began in (R225). -/
  st : BitVec 2
  /-- `f2`, the latch as the enable request read it (R286). -/
  f2 : BitVec 2
  deriving DecidableEq, Repr

/-- The locals before S1 of a cycle; each is written before it is read (log entry 18). -/
def Locals.fresh : Locals :=
  { raw0 := 0, raw1 := 0, raw2 := 0, raw3 := 0, conv := false, m := 0, f := 0, enReq := false,
    st := 0, f2 := 0 }

/-- R24, R44 (6): "inside a CYCLE in progress, the index of the next step", with the cycle's locals. -/
structure InFlight where
  next : Phase
  loc : Locals
  deriving DecidableEq, Repr

/-! ## What the outside world can do -/

/-- One move of an agent or of the outside world (R5, R302, R330; log entry 1). -/
inductive Input where
  /-- The agent CYC takes its next step (R5). -/
  | cyc
  /-- Nothing else happens until the CYCLE in progress has completed (R89, `TICK <int>`). -/
  | settle
  /-- The TICK event (R66, R302). -/
  | tick
  /-- The HWFAULT event (R68, R302). -/
  | hwfault
  /-- The RESET event (R330). -/
  | reset
  /-- HOST's `RegWrite(i, v)` (R63). -/
  | hostWrite (i : RegIndex) (v : Word)
  /-- HOST's `RegRead(i)` (R62). -/
  | hostRead (i : RegIndex)
  /-- A write on a byte-addressed presentation, the bytes from the lowest address up (R61, R76). -/
  | busWrite (addr : BitVec 11) (bytes : List Byte)
  /-- A read of `width` bytes on a byte-addressed presentation (R61, R76). -/
  | busRead (addr : BitVec 11) (width : Nat)
  /-- SMP writes ADC_RAW[k] (R69). -/
  | smpAdc (k : BitVec 2) (code : BitVec 12)
  /-- SMP writes HALL_IN (R69). -/
  | smpHall (code : BitVec 3)
  deriving DecidableEq, Repr

/-! ## How a step can stop -/

/-- CORE has no model-level fault: "A fault of CORE is therefore ordinary state [...] and not a
model-level fault" (R13), and no treatment of `93_implementation_defined.md` is `fault`. The type has
no value, so no step can answer one (safe). -/
inductive Fault
  deriving DecidableEq, Repr

/-- The cases to which the spec gives no meaning (R13; the rows marked `refuse` in
`93_implementation_defined.md`). Each is safe: nothing can be proved of a run past it. -/
inductive Refusal where
  /-- Raised by exec's arm of an operation that has no meaning yet; safe. -/
  | notModelled (mnemonic : String)
  /-- Raised by CC_STEP, and by what performs it, when CC_LPF is not 0 (R145, X4); safe. -/
  | smoothing
  /-- Raised by a cycle that selects VREF_GEN (R276, X9); safe. -/
  | vrefGen
  /-- Raised by a cycle that selects PARAM_EST (R279, X9); safe. -/
  | paramEst
  /-- Raised by a bus access that is not one aligned 32-bit word (R76, X12); safe. -/
  | accessShape
  /-- Raised by a write to CMD while a CYCLE is in progress (R65, X13); safe. -/
  | commandDuringCycle
  /-- Raised by a TICK while a CYCLE is in progress (R66, X14); safe. -/
  | tickDuringCycle
  deriving DecidableEq, Repr

/-! ## The machine -/

/-- The state of the machine. -/
structure State where
  /-- The register file (R20). -/
  ctx : Context F32
  /-- The CYCLE in progress, if any (R24). -/
  cyc : Option InFlight
  /-- The model's own: the moves still to come, in order (log entry 1). -/
  inputs : List Input
  /-- The model's own: the word the last read returned to HOST (R62; log entry 2). -/
  readData : Word
  /-- The model's own: the draw of the free values that comes next (R11, X3; log entry 6). -/
  draws : Nat
  deriving DecidableEq, Repr

/-- The machine right after reset (R331, R46): no CYCLE is in progress and "CORE does nothing until an
event or a HOST access arrives". 1, 3000, 4 and 5 are binary32 patterns. -/
def State.reset : State :=
  { ctx := Context.reset 0x00000000 0x3F800000 0x453B8000 0x40800000 0x40A00000
    cyc := none
    inputs := []
    readData := 0
    draws := 0 }

end Sys2Proof.Machine
end

