-- ==== Sys2Proof/Machine/Operands.lean ====
section
/-! DEFINITION. Operand forms: a command writes its results to R0 upward (`30_encoding.md` R83), leaving
the R registers it does not name unchanged (`10_state.md` R23); its operands A0 upward are the fields of
`Context.a`; and what enters through the sample port is an ADC code or the Hall code (R92). -/

namespace Sys2Proof.Machine

variable {N : Type}

/-- One result, to R0. -/
def Context.result1 (c : Context N) (x : N) : Context N := { c with r.R0 := x }

/-- Two results, to R0 and R1. -/
def Context.result2 (c : Context N) (x : N × N) : Context N := { c with r.R0 := x.1, r.R1 := x.2 }

/-- Three results, to R0, R1 and R2. -/
def Context.result3 (c : Context N) (x : N × N × N) : Context N :=
  { c with r.R0 := x.1, r.R1 := x.2.1, r.R2 := x.2.2 }

/-- Four results, to R0 to R3. -/
def Context.result4 (c : Context N) (x : N × N × N × N) : Context N :=
  { c with r.R0 := x.1, r.R1 := x.2.1, r.R2 := x.2.2.1, r.R3 := x.2.2.2 }

/-- R92: an ADC code, "unsigned, converted to NUM by ofInt". -/
def adcNum (P : Params N) (code : BitVec 12) : N := P.ofInt code.toNat

/-- R92, R181: `4·HALL_IN[2] + 2·HALL_IN[1] + HALL_IN[0]`. -/
def hallCode (h : BitVec 3) : BitVec 3 :=
  BitVec.ofNat 3 (4 * (h.getLsbD 2).toNat + 2 * (h.getLsbD 1).toNat + (h.getLsbD 0).toNat)

end Sys2Proof.Machine
end

