-- ==== Sys2Proof/Machine/Flags.lean ====
section
/-! DEFINITION. The named one-bit fields of MODE and STATUS (`10_state.md` R25, R26) and the operations
on them: how HOST's writes change the two registers (R63) and the clears CORE makes (R229, R243, R245,
R281). -/

namespace Sys2Proof.Machine

/-- The named bits of MODE (R26). -/
inductive ModeFlag where
  | READY | FAULT | RUN | HALL_TEST | DUTY_TEST | OL_CURRENT | VREF_GEN | OL_VOLTAGE | PARAM_EST
  | ALIGN | FAULT_CLEAR | COMP | SENSORLESS | FOO_VARIANT | TORQUE_SEL
  deriving DecidableEq, Repr

/-- The bit position of a flag (R26). -/
def ModeFlag.bit : ModeFlag → Nat
  | .READY => 0 | .FAULT => 1 | .RUN => 2 | .HALL_TEST => 3 | .DUTY_TEST => 4 | .OL_CURRENT => 5
  | .VREF_GEN => 6 | .OL_VOLTAGE => 7 | .PARAM_EST => 8 | .ALIGN => 9 | .FAULT_CLEAR => 10
  | .COMP => 11 | .SENSORLESS => 12 | .FOO_VARIANT => 13 | .TORQUE_SEL => 14

/-- The word in which this flag alone is set. -/
def ModeFlag.mask (f : ModeFlag) : Word := 1#32 <<< f.bit

/-- Whether a flag is set in a MODE word. -/
def flag (m : Word) (f : ModeFlag) : Bool := m.getLsbD f.bit

/-- Set one flag and no other bit. -/
def setFlag (m : Word) (f : ModeFlag) : Word := m ||| f.mask

/-- Clear one flag and no other bit (R71: "change only the bits named"). -/
def clearFlag (m : Word) (f : ModeFlag) : Word := m &&& ~~~f.mask

/-- R281: `MODE[9:2] <- 0`, "touches no other bit". -/
def clearRunModes (m : Word) : Word := m &&& 0xFFFFFC03#32

/-- R26, R63: "A HOST write to MODE replaces bits 0 and 2 to 31; bit 1 keeps its value." -/
def modeHostWrite (old v : Word) : Word := (v &&& ~~~ModeFlag.FAULT.mask) ||| (old &&& ModeFlag.FAULT.mask)

/-- R63: "STATUS clears each bit whose written bit is 1"; CMD_ILLEGAL is bit 0. -/
def statusHostWrite (cmdIllegal : Bool) (v : Word) : Bool := cmdIllegal && !v.getLsbD 0

/-- STATUS as a word: "bits 31 to 1 read as zero" (R25). -/
def statusWord (cmdIllegal : Bool) : Word := if cmdIllegal then 1 else 0

end Sys2Proof.Machine
end

