-- ==== Sys2Proof/Machine/RegFile.lean ====
section
/-! DEFINITION. The register space (`20_memory.md` R60 to R63, R67, `10_state.md`): every register by
name, its word index, its host access class (R22), how it reads and what a HOST write does to it. The
space is all the addressable state CORE has: there is no data memory (R60). -/

namespace Sys2Proof.Machine

/-- The registers of `10_state.md`, each under its own name. -/
inductive Reg where
  -- R25 to R27
  | CMD | STATUS | MODE | CYCLE_CNT
  -- R23
  | A0 | A1 | A2 | A3 | A4 | A5 | A6 | A7 | A8 | A9 | A10 | A11
  -- R23
  | R0 | R1 | R2 | R3 | R4 | R5
  -- R28
  | Rs | Ld | Lq | Lamf | PP | Jm | Bm | I_align | I_rated | I_limit | Wrpm_rated | Te_rated
  | Kt | INV_Kt
  -- R29
  | Wcc | Wsc | Wpll | Wc_eemf | Beta_foo
  -- R30
  | Kpd | Kid | Kpq | Kiq | Kp_sc | Ki_sc | Kp_pll | Ki_pll | Kp_hall | Ki_hall | K1 | K2 | K3
  | Kp_eemf | Ki_eemf
  -- R30
  | Kad | Kaq | Ka_sc | CC_LPF | DT_A | DT_B | ACC_MAX | T_ALIGN1 | T_ALIGN2
  -- R31
  | ADC_RAW0 | ADC_RAW1 | ADC_RAW2 | ADC_RAW3 | HALL_IN | ADC_GAIN0 | ADC_GAIN1 | ADC_GAIN2
  | ADC_GAIN3
  -- R31
  | ADC1_Offset0 | ADC1_Offset1 | ADC1_Offset2 | OFFSET_SUM0 | OFFSET_SUM1 | OFFSET_SUM2
  | CAL_CNT | CAL_DONE
  -- R32
  | Ia | Ib | Ic | Vdc | Vdc_lpf | Idc
  -- R33
  | Idsr_ref | Idsr | Idsr_err | Vdsr_integ | Vdsr_ref_unsat | Vdsr_ref | Vdsr_aw | Iqsr_ref
  | Iqsr | Iqsr_err | Vqsr_integ | Vqsr_ref_unsat | Vqsr_ref | Vqsr_aw
  -- R34
  | Idss | Iqss | Vdss_ref | Vqss_ref | Vas_ref | Vbs_ref | Vcs_ref | Vsn | Van_ref | Vbn_ref
  | Vcn_ref | Iqsr_ref_unsat
  -- R34
  | Thetar_sel | Wr_sel
  -- R35
  | Wrm_ref | Wrm | Wrm_err | Te_integ | Te_ref_unsat | Te_ref | Te_aw
  -- R36
  | Hall_code | Theta_hall_ref | Theta_hall_err | W_hall_integ | Thetar_hall | Wr_hall
  -- R37
  | Thetarm_est | Thetar_est | Wrm_est | Wrm_integ | Te_est | Te_ff | Tl_integ | Tl_est
  | Thetarm_err
  -- R38
  | Vdss_ref_old | Vqss_ref_old | Vdse | Vqse | Idse | Iqse | Idse_est | Iqse_est | EEMFd_integ
  | EEMFq_integ | EEMFd_est | EEMFq_est | Err_Thetar
  -- R39
  | Align_stage | Align_time | Align_done
  -- R43
  | Fault_code | Fault_cnt | F_Vdc | F_Idc | F_Ia | F_Ib | F_Ic | F_Wr
  -- R40
  | Wrpm_cmd | Torque_cmd | Id_ol_ref | Iq_ol_ref | Vd_ol_ref | Vq_ol_ref | W_ol | Theta_ol
  | Duty_test_a | Duty_test_b | Duty_test_c | Hall_test_sel
  -- R41
  | Duty_a | Duty_b | Duty_c | PWM_EN
  deriving DecidableEq, Repr

/-- The host access classes (R22). CMD and MODE are RW with a rule of their own (R63): a write to CMD
also executes a command, a write to MODE keeps bit 1. -/
inductive HostClass where
  | RW
  | RO
  | W1C
  deriving DecidableEq, Repr

/-- The registers of R25 to R27. -/
def Reg.ctlRegs : List Reg :=
  [.CMD, .STATUS, .MODE, .CYCLE_CNT]

/-- The registers of R23. -/
def Reg.aRegs : List Reg :=
  [.A0, .A1, .A2, .A3, .A4, .A5, .A6, .A7, .A8, .A9, .A10, .A11]

/-- The registers of R23. -/
def Reg.rRegs : List Reg :=
  [.R0, .R1, .R2, .R3, .R4, .R5]

/-- The registers of R28. -/
def Reg.parRegs : List Reg :=
  [.Rs, .Ld, .Lq, .Lamf, .PP, .Jm, .Bm, .I_align, .I_rated, .I_limit, .Wrpm_rated, .Te_rated,
   .Kt, .INV_Kt]

/-- The registers of R29. -/
def Reg.bwRegs : List Reg :=
  [.Wcc, .Wsc, .Wpll, .Wc_eemf, .Beta_foo]

/-- The registers of R30. -/
def Reg.gainRegs : List Reg :=
  [.Kpd, .Kid, .Kpq, .Kiq, .Kp_sc, .Ki_sc, .Kp_pll, .Ki_pll, .Kp_hall, .Ki_hall, .K1, .K2, .K3,
   .Kp_eemf, .Ki_eemf]

/-- The registers of R30. -/
def Reg.tunRegs : List Reg :=
  [.Kad, .Kaq, .Ka_sc, .CC_LPF, .DT_A, .DT_B, .ACC_MAX, .T_ALIGN1, .T_ALIGN2]

/-- The registers of R31. -/
def Reg.smpRegs : List Reg :=
  [.ADC_RAW0, .ADC_RAW1, .ADC_RAW2, .ADC_RAW3, .HALL_IN, .ADC_GAIN0, .ADC_GAIN1, .ADC_GAIN2,
   .ADC_GAIN3]

/-- The registers of R31. -/
def Reg.calRegs : List Reg :=
  [.ADC1_Offset0, .ADC1_Offset1, .ADC1_Offset2, .OFFSET_SUM0, .OFFSET_SUM1, .OFFSET_SUM2,
   .CAL_CNT, .CAL_DONE]

/-- The registers of R32. -/
def Reg.measRegs : List Reg :=
  [.Ia, .Ib, .Ic, .Vdc, .Vdc_lpf, .Idc]

/-- The registers of R33. -/
def Reg.ccRegs : List Reg :=
  [.Idsr_ref, .Idsr, .Idsr_err, .Vdsr_integ, .Vdsr_ref_unsat, .Vdsr_ref, .Vdsr_aw, .Iqsr_ref,
   .Iqsr, .Iqsr_err, .Vqsr_integ, .Vqsr_ref_unsat, .Vqsr_ref, .Vqsr_aw]

/-- The registers of R34. -/
def Reg.mdRegs : List Reg :=
  [.Idss, .Iqss, .Vdss_ref, .Vqss_ref, .Vas_ref, .Vbs_ref, .Vcs_ref, .Vsn, .Van_ref, .Vbn_ref,
   .Vcn_ref, .Iqsr_ref_unsat]

/-- The registers of R34. -/
def Reg.slRegs : List Reg :=
  [.Thetar_sel, .Wr_sel]

/-- The registers of R35. -/
def Reg.scRegs : List Reg :=
  [.Wrm_ref, .Wrm, .Wrm_err, .Te_integ, .Te_ref_unsat, .Te_ref, .Te_aw]

/-- The registers of R36. -/
def Reg.hallRegs : List Reg :=
  [.Hall_code, .Theta_hall_ref, .Theta_hall_err, .W_hall_integ, .Thetar_hall, .Wr_hall]

/-- The registers of R37. -/
def Reg.fooRegs : List Reg :=
  [.Thetarm_est, .Thetar_est, .Wrm_est, .Wrm_integ, .Te_est, .Te_ff, .Tl_integ, .Tl_est,
   .Thetarm_err]

/-- The registers of R38. -/
def Reg.eemfRegs : List Reg :=
  [.Vdss_ref_old, .Vqss_ref_old, .Vdse, .Vqse, .Idse, .Iqse, .Idse_est, .Iqse_est,
   .EEMFd_integ, .EEMFq_integ, .EEMFd_est, .EEMFq_est, .Err_Thetar]

/-- The registers of R39. -/
def Reg.alRegs : List Reg :=
  [.Align_stage, .Align_time, .Align_done]

/-- The registers of R43. -/
def Reg.fltRegs : List Reg :=
  [.Fault_code, .Fault_cnt, .F_Vdc, .F_Idc, .F_Ia, .F_Ib, .F_Ic, .F_Wr]

/-- The registers of R40. -/
def Reg.spRegs : List Reg :=
  [.Wrpm_cmd, .Torque_cmd, .Id_ol_ref, .Iq_ol_ref, .Vd_ol_ref, .Vq_ol_ref, .W_ol, .Theta_ol,
   .Duty_test_a, .Duty_test_b, .Duty_test_c, .Hall_test_sel]

/-- The registers of R41. -/
def Reg.outRegs : List Reg :=
  [.Duty_a, .Duty_b, .Duty_c, .PWM_EN]

/-- Every register. -/
def Reg.all : List Reg :=
  Reg.ctlRegs ++ Reg.aRegs ++ Reg.rRegs ++ Reg.parRegs ++ Reg.bwRegs ++ Reg.gainRegs ++
    Reg.tunRegs ++ Reg.smpRegs ++ Reg.calRegs ++ Reg.measRegs ++ Reg.ccRegs ++ Reg.mdRegs ++
    Reg.slRegs ++ Reg.scRegs ++ Reg.hallRegs ++ Reg.fooRegs ++ Reg.eemfRegs ++ Reg.alRegs ++
    Reg.fltRegs ++ Reg.spRegs ++ Reg.outRegs

/-- The word index of a register (`10_state.md`). -/
def Reg.index : Reg → Nat
  | .CMD => 0x000 | .STATUS => 0x001 | .MODE => 0x002 | .CYCLE_CNT => 0x003
  | .A0 => 0x008 | .A1 => 0x009 | .A2 => 0x00A | .A3 => 0x00B | .A4 => 0x00C | .A5 => 0x00D
  | .A6 => 0x00E | .A7 => 0x00F | .A8 => 0x010 | .A9 => 0x011 | .A10 => 0x012 | .A11 => 0x013
  | .R0 => 0x014 | .R1 => 0x015 | .R2 => 0x016 | .R3 => 0x017 | .R4 => 0x018 | .R5 => 0x019
  | .Rs => 0x020 | .Ld => 0x021 | .Lq => 0x022 | .Lamf => 0x023 | .PP => 0x024 | .Jm => 0x025
  | .Bm => 0x026 | .I_align => 0x027 | .I_rated => 0x028 | .I_limit => 0x029
  | .Wrpm_rated => 0x02A | .Te_rated => 0x02B | .Kt => 0x02C | .INV_Kt => 0x02D
  | .Wcc => 0x030 | .Wsc => 0x031 | .Wpll => 0x032 | .Wc_eemf => 0x033 | .Beta_foo => 0x034
  | .Kpd => 0x040 | .Kid => 0x041 | .Kpq => 0x042 | .Kiq => 0x043 | .Kp_sc => 0x046
  | .Ki_sc => 0x047 | .Kp_pll => 0x049 | .Ki_pll => 0x04A | .Kp_hall => 0x04B
  | .Ki_hall => 0x04C | .K1 => 0x04D | .K2 => 0x04E | .K3 => 0x04F | .Kp_eemf => 0x050
  | .Ki_eemf => 0x051
  | .Kad => 0x044 | .Kaq => 0x045 | .Ka_sc => 0x048 | .CC_LPF => 0x058 | .DT_A => 0x059
  | .DT_B => 0x05A | .ACC_MAX => 0x05B | .T_ALIGN1 => 0x05C | .T_ALIGN2 => 0x05D
  | .ADC_RAW0 => 0x060 | .ADC_RAW1 => 0x061 | .ADC_RAW2 => 0x062 | .ADC_RAW3 => 0x063
  | .HALL_IN => 0x064 | .ADC_GAIN0 => 0x06D | .ADC_GAIN1 => 0x06E | .ADC_GAIN2 => 0x06F
  | .ADC_GAIN3 => 0x070
  | .ADC1_Offset0 => 0x065 | .ADC1_Offset1 => 0x066 | .ADC1_Offset2 => 0x067
  | .OFFSET_SUM0 => 0x068 | .OFFSET_SUM1 => 0x069 | .OFFSET_SUM2 => 0x06A | .CAL_CNT => 0x06B
  | .CAL_DONE => 0x06C
  | .Ia => 0x071 | .Ib => 0x072 | .Ic => 0x073 | .Vdc => 0x074 | .Vdc_lpf => 0x075
  | .Idc => 0x076
  | .Idsr_ref => 0x080 | .Idsr => 0x081 | .Idsr_err => 0x082 | .Vdsr_integ => 0x083
  | .Vdsr_ref_unsat => 0x084 | .Vdsr_ref => 0x085 | .Vdsr_aw => 0x086 | .Iqsr_ref => 0x088
  | .Iqsr => 0x089 | .Iqsr_err => 0x08A | .Vqsr_integ => 0x08B | .Vqsr_ref_unsat => 0x08C
  | .Vqsr_ref => 0x08D | .Vqsr_aw => 0x08E
  | .Idss => 0x090 | .Iqss => 0x091 | .Vdss_ref => 0x092 | .Vqss_ref => 0x093
  | .Vas_ref => 0x094 | .Vbs_ref => 0x095 | .Vcs_ref => 0x096 | .Vsn => 0x097
  | .Van_ref => 0x098 | .Vbn_ref => 0x099 | .Vcn_ref => 0x09A | .Iqsr_ref_unsat => 0x09D
  | .Thetar_sel => 0x09B | .Wr_sel => 0x09C
  | .Wrm_ref => 0x0A0 | .Wrm => 0x0A1 | .Wrm_err => 0x0A2 | .Te_integ => 0x0A3
  | .Te_ref_unsat => 0x0A4 | .Te_ref => 0x0A5 | .Te_aw => 0x0A6
  | .Hall_code => 0x0B0 | .Theta_hall_ref => 0x0B1 | .Theta_hall_err => 0x0B2
  | .W_hall_integ => 0x0B3 | .Thetar_hall => 0x0B4 | .Wr_hall => 0x0B5
  | .Thetarm_est => 0x0C0 | .Thetar_est => 0x0C1 | .Wrm_est => 0x0C2 | .Wrm_integ => 0x0C3
  | .Te_est => 0x0C4 | .Te_ff => 0x0C5 | .Tl_integ => 0x0C6 | .Tl_est => 0x0C7
  | .Thetarm_err => 0x0C8
  | .Vdss_ref_old => 0x0D0 | .Vqss_ref_old => 0x0D1 | .Vdse => 0x0D2 | .Vqse => 0x0D3
  | .Idse => 0x0D4 | .Iqse => 0x0D5 | .Idse_est => 0x0D6 | .Iqse_est => 0x0D7
  | .EEMFd_integ => 0x0D8 | .EEMFq_integ => 0x0D9 | .EEMFd_est => 0x0DA | .EEMFq_est => 0x0DB
  | .Err_Thetar => 0x0DC
  | .Align_stage => 0x0E0 | .Align_time => 0x0E1 | .Align_done => 0x0E2
  | .Fault_code => 0x0E8 | .Fault_cnt => 0x0E9 | .F_Vdc => 0x0EA | .F_Idc => 0x0EB
  | .F_Ia => 0x0EC | .F_Ib => 0x0ED | .F_Ic => 0x0EE | .F_Wr => 0x0EF
  | .Wrpm_cmd => 0x0F0 | .Torque_cmd => 0x0F1 | .Id_ol_ref => 0x0F2 | .Iq_ol_ref => 0x0F3
  | .Vd_ol_ref => 0x0F4 | .Vq_ol_ref => 0x0F5 | .W_ol => 0x0F6 | .Theta_ol => 0x0F7
  | .Duty_test_a => 0x0F8 | .Duty_test_b => 0x0F9 | .Duty_test_c => 0x0FA
  | .Hall_test_sel => 0x0FB
  | .Duty_a => 0x100 | .Duty_b => 0x101 | .Duty_c => 0x102 | .PWM_EN => 0x103

/-- The host access class of a register (`10_state.md`). -/
def Reg.hostClass : Reg → HostClass
  | .CMD => .RW | .STATUS => .W1C | .MODE => .RW | .CYCLE_CNT => .RO
  | .A0 => .RW | .A1 => .RW | .A2 => .RW | .A3 => .RW | .A4 => .RW | .A5 => .RW | .A6 => .RW
  | .A7 => .RW | .A8 => .RW | .A9 => .RW | .A10 => .RW | .A11 => .RW
  | .R0 => .RO | .R1 => .RO | .R2 => .RO | .R3 => .RO | .R4 => .RO | .R5 => .RO
  | .Rs => .RO | .Ld => .RO | .Lq => .RO | .Lamf => .RO | .PP => .RO | .Jm => .RO | .Bm => .RO
  | .I_align => .RO | .I_rated => .RO | .I_limit => .RO | .Wrpm_rated => .RO | .Te_rated => .RO
  | .Kt => .RO | .INV_Kt => .RO
  | .Wcc => .RW | .Wsc => .RW | .Wpll => .RW | .Wc_eemf => .RW | .Beta_foo => .RO
  | .Kpd => .RO | .Kid => .RO | .Kpq => .RO | .Kiq => .RO | .Kp_sc => .RO | .Ki_sc => .RO
  | .Kp_pll => .RO | .Ki_pll => .RO | .Kp_hall => .RO | .Ki_hall => .RO | .K1 => .RO
  | .K2 => .RO | .K3 => .RO | .Kp_eemf => .RO | .Ki_eemf => .RO
  | .Kad => .RW | .Kaq => .RW | .Ka_sc => .RW | .CC_LPF => .RW | .DT_A => .RW | .DT_B => .RW
  | .ACC_MAX => .RW | .T_ALIGN1 => .RW | .T_ALIGN2 => .RW
  | .ADC_RAW0 => .RW | .ADC_RAW1 => .RW | .ADC_RAW2 => .RW | .ADC_RAW3 => .RW | .HALL_IN => .RW
  | .ADC_GAIN0 => .RW | .ADC_GAIN1 => .RW | .ADC_GAIN2 => .RW | .ADC_GAIN3 => .RW
  | .ADC1_Offset0 => .RO | .ADC1_Offset1 => .RO | .ADC1_Offset2 => .RO | .OFFSET_SUM0 => .RO
  | .OFFSET_SUM1 => .RO | .OFFSET_SUM2 => .RO | .CAL_CNT => .RO | .CAL_DONE => .RO
  | .Ia => .RO | .Ib => .RO | .Ic => .RO | .Vdc => .RO | .Vdc_lpf => .RO | .Idc => .RW
  | .Idsr_ref => .RO | .Idsr => .RO | .Idsr_err => .RO | .Vdsr_integ => .RO
  | .Vdsr_ref_unsat => .RO | .Vdsr_ref => .RO | .Vdsr_aw => .RO | .Iqsr_ref => .RO
  | .Iqsr => .RO | .Iqsr_err => .RO | .Vqsr_integ => .RO | .Vqsr_ref_unsat => .RO
  | .Vqsr_ref => .RO | .Vqsr_aw => .RO
  | .Idss => .RO | .Iqss => .RO | .Vdss_ref => .RO | .Vqss_ref => .RO | .Vas_ref => .RO
  | .Vbs_ref => .RO | .Vcs_ref => .RO | .Vsn => .RO | .Van_ref => .RO | .Vbn_ref => .RO
  | .Vcn_ref => .RO | .Iqsr_ref_unsat => .RO
  | .Thetar_sel => .RO | .Wr_sel => .RO
  | .Wrm_ref => .RO | .Wrm => .RO | .Wrm_err => .RO | .Te_integ => .RO | .Te_ref_unsat => .RO
  | .Te_ref => .RO | .Te_aw => .RO
  | .Hall_code => .RO | .Theta_hall_ref => .RO | .Theta_hall_err => .RO | .W_hall_integ => .RO
  | .Thetar_hall => .RO | .Wr_hall => .RO
  | .Thetarm_est => .RO | .Thetar_est => .RO | .Wrm_est => .RO | .Wrm_integ => .RO
  | .Te_est => .RO | .Te_ff => .RO | .Tl_integ => .RO | .Tl_est => .RO | .Thetarm_err => .RO
  | .Vdss_ref_old => .RO | .Vqss_ref_old => .RO | .Vdse => .RO | .Vqse => .RO | .Idse => .RO
  | .Iqse => .RO | .Idse_est => .RO | .Iqse_est => .RO | .EEMFd_integ => .RO
  | .EEMFq_integ => .RO | .EEMFd_est => .RO | .EEMFq_est => .RO | .Err_Thetar => .RO
  | .Align_stage => .RO | .Align_time => .RO | .Align_done => .RO
  | .Fault_code => .RO | .Fault_cnt => .RO | .F_Vdc => .RO | .F_Idc => .RO | .F_Ia => .RO
  | .F_Ib => .RO | .F_Ic => .RO | .F_Wr => .RO
  | .Wrpm_cmd => .RW | .Torque_cmd => .RW | .Id_ol_ref => .RW | .Iq_ol_ref => .RW
  | .Vd_ol_ref => .RW | .Vq_ol_ref => .RW | .W_ol => .RW | .Theta_ol => .RO
  | .Duty_test_a => .RW | .Duty_test_b => .RW | .Duty_test_c => .RW | .Hall_test_sel => .RW
  | .Duty_a => .RO | .Duty_b => .RO | .Duty_c => .RO | .PWM_EN => .RO

/-- The register at an index, if there is one (R47). -/
def Reg.ofIndex (i : RegIndex) : Option Reg := Reg.all.find? (fun r => r.index == i.toNat)

/-- A register of type B in bit 0 of its word (R21). -/
def boolWord (b : Bool) : Word := if b then 1 else 0

/-- The word a register reads as (R62): a NUM register's encoding, an integer register zero-extended,
MODE's flags. -/
def Context.read (c : Context F32) : Reg → Word
  | .CMD => c.ctl.CMD | .STATUS => statusWord c.ctl.CMD_ILLEGAL | .MODE => c.ctl.MODE
  | .CYCLE_CNT => c.ctl.CYCLE_CNT
  | .A0 => c.a.A0 | .A1 => c.a.A1 | .A2 => c.a.A2 | .A3 => c.a.A3 | .A4 => c.a.A4
  | .A5 => c.a.A5 | .A6 => c.a.A6 | .A7 => c.a.A7 | .A8 => c.a.A8 | .A9 => c.a.A9
  | .A10 => c.a.A10 | .A11 => c.a.A11
  | .R0 => c.r.R0 | .R1 => c.r.R1 | .R2 => c.r.R2 | .R3 => c.r.R3 | .R4 => c.r.R4
  | .R5 => c.r.R5
  | .Rs => c.par.Rs | .Ld => c.par.Ld | .Lq => c.par.Lq | .Lamf => c.par.Lamf | .PP => c.par.PP
  | .Jm => c.par.Jm | .Bm => c.par.Bm | .I_align => c.par.I_align | .I_rated => c.par.I_rated
  | .I_limit => c.par.I_limit | .Wrpm_rated => c.par.Wrpm_rated | .Te_rated => c.par.Te_rated
  | .Kt => c.par.Kt | .INV_Kt => c.par.INV_Kt
  | .Wcc => c.bw.Wcc | .Wsc => c.bw.Wsc | .Wpll => c.bw.Wpll | .Wc_eemf => c.bw.Wc_eemf
  | .Beta_foo => c.bw.Beta_foo
  | .Kpd => c.gain.Kpd | .Kid => c.gain.Kid | .Kpq => c.gain.Kpq | .Kiq => c.gain.Kiq
  | .Kp_sc => c.gain.Kp_sc | .Ki_sc => c.gain.Ki_sc | .Kp_pll => c.gain.Kp_pll
  | .Ki_pll => c.gain.Ki_pll | .Kp_hall => c.gain.Kp_hall | .Ki_hall => c.gain.Ki_hall
  | .K1 => c.gain.K1 | .K2 => c.gain.K2 | .K3 => c.gain.K3 | .Kp_eemf => c.gain.Kp_eemf
  | .Ki_eemf => c.gain.Ki_eemf
  | .Kad => c.tun.Kad | .Kaq => c.tun.Kaq | .Ka_sc => c.tun.Ka_sc | .CC_LPF => c.tun.CC_LPF
  | .DT_A => c.tun.DT_A | .DT_B => c.tun.DT_B | .ACC_MAX => c.tun.ACC_MAX
  | .T_ALIGN1 => c.tun.T_ALIGN1 | .T_ALIGN2 => c.tun.T_ALIGN2
  | .ADC_RAW0 => c.smp.ADC_RAW0.setWidth 32 | .ADC_RAW1 => c.smp.ADC_RAW1.setWidth 32
  | .ADC_RAW2 => c.smp.ADC_RAW2.setWidth 32 | .ADC_RAW3 => c.smp.ADC_RAW3.setWidth 32
  | .HALL_IN => c.smp.HALL_IN.setWidth 32 | .ADC_GAIN0 => c.smp.ADC_GAIN0
  | .ADC_GAIN1 => c.smp.ADC_GAIN1 | .ADC_GAIN2 => c.smp.ADC_GAIN2
  | .ADC_GAIN3 => c.smp.ADC_GAIN3
  | .ADC1_Offset0 => c.cal.ADC1_Offset0 | .ADC1_Offset1 => c.cal.ADC1_Offset1
  | .ADC1_Offset2 => c.cal.ADC1_Offset2 | .OFFSET_SUM0 => c.cal.OFFSET_SUM0
  | .OFFSET_SUM1 => c.cal.OFFSET_SUM1 | .OFFSET_SUM2 => c.cal.OFFSET_SUM2
  | .CAL_CNT => c.cal.CAL_CNT | .CAL_DONE => boolWord c.cal.CAL_DONE
  | .Ia => c.meas.Ia | .Ib => c.meas.Ib | .Ic => c.meas.Ic | .Vdc => c.meas.Vdc
  | .Vdc_lpf => c.meas.Vdc_lpf | .Idc => c.meas.Idc
  | .Idsr_ref => c.cc.Idsr_ref | .Idsr => c.cc.Idsr | .Idsr_err => c.cc.Idsr_err
  | .Vdsr_integ => c.cc.Vdsr_integ | .Vdsr_ref_unsat => c.cc.Vdsr_ref_unsat
  | .Vdsr_ref => c.cc.Vdsr_ref | .Vdsr_aw => c.cc.Vdsr_aw | .Iqsr_ref => c.cc.Iqsr_ref
  | .Iqsr => c.cc.Iqsr | .Iqsr_err => c.cc.Iqsr_err | .Vqsr_integ => c.cc.Vqsr_integ
  | .Vqsr_ref_unsat => c.cc.Vqsr_ref_unsat | .Vqsr_ref => c.cc.Vqsr_ref
  | .Vqsr_aw => c.cc.Vqsr_aw
  | .Idss => c.md.Idss | .Iqss => c.md.Iqss | .Vdss_ref => c.md.Vdss_ref
  | .Vqss_ref => c.md.Vqss_ref | .Vas_ref => c.md.Vas_ref | .Vbs_ref => c.md.Vbs_ref
  | .Vcs_ref => c.md.Vcs_ref | .Vsn => c.md.Vsn | .Van_ref => c.md.Van_ref
  | .Vbn_ref => c.md.Vbn_ref | .Vcn_ref => c.md.Vcn_ref | .Iqsr_ref_unsat => c.md.Iqsr_ref_unsat
  | .Thetar_sel => c.sl.Thetar_sel | .Wr_sel => c.sl.Wr_sel
  | .Wrm_ref => c.sc.Wrm_ref | .Wrm => c.sc.Wrm | .Wrm_err => c.sc.Wrm_err
  | .Te_integ => c.sc.Te_integ | .Te_ref_unsat => c.sc.Te_ref_unsat | .Te_ref => c.sc.Te_ref
  | .Te_aw => c.sc.Te_aw
  | .Hall_code => c.hall.Hall_code.setWidth 32 | .Theta_hall_ref => c.hall.Theta_hall_ref
  | .Theta_hall_err => c.hall.Theta_hall_err | .W_hall_integ => c.hall.W_hall_integ
  | .Thetar_hall => c.hall.Thetar_hall | .Wr_hall => c.hall.Wr_hall
  | .Thetarm_est => c.foo.Thetarm_est | .Thetar_est => c.foo.Thetar_est
  | .Wrm_est => c.foo.Wrm_est | .Wrm_integ => c.foo.Wrm_integ | .Te_est => c.foo.Te_est
  | .Te_ff => c.foo.Te_ff | .Tl_integ => c.foo.Tl_integ | .Tl_est => c.foo.Tl_est
  | .Thetarm_err => c.foo.Thetarm_err
  | .Vdss_ref_old => c.eemf.Vdss_ref_old | .Vqss_ref_old => c.eemf.Vqss_ref_old
  | .Vdse => c.eemf.Vdse | .Vqse => c.eemf.Vqse | .Idse => c.eemf.Idse | .Iqse => c.eemf.Iqse
  | .Idse_est => c.eemf.Idse_est | .Iqse_est => c.eemf.Iqse_est
  | .EEMFd_integ => c.eemf.EEMFd_integ | .EEMFq_integ => c.eemf.EEMFq_integ
  | .EEMFd_est => c.eemf.EEMFd_est | .EEMFq_est => c.eemf.EEMFq_est
  | .Err_Thetar => c.eemf.Err_Thetar
  | .Align_stage => c.al.Align_stage.setWidth 32 | .Align_time => c.al.Align_time
  | .Align_done => boolWord c.al.Align_done
  | .Fault_code => c.flt.Fault_code.setWidth 32 | .Fault_cnt => c.flt.Fault_cnt
  | .F_Vdc => c.flt.F_Vdc | .F_Idc => c.flt.F_Idc | .F_Ia => c.flt.F_Ia | .F_Ib => c.flt.F_Ib
  | .F_Ic => c.flt.F_Ic | .F_Wr => c.flt.F_Wr
  | .Wrpm_cmd => c.sp.Wrpm_cmd | .Torque_cmd => c.sp.Torque_cmd | .Id_ol_ref => c.sp.Id_ol_ref
  | .Iq_ol_ref => c.sp.Iq_ol_ref | .Vd_ol_ref => c.sp.Vd_ol_ref | .Vq_ol_ref => c.sp.Vq_ol_ref
  | .W_ol => c.sp.W_ol | .Theta_ol => c.sp.Theta_ol | .Duty_test_a => c.sp.Duty_test_a
  | .Duty_test_b => c.sp.Duty_test_b | .Duty_test_c => c.sp.Duty_test_c
  | .Hall_test_sel => c.sp.Hall_test_sel.setWidth 32
  | .Duty_a => c.out.Duty_a | .Duty_b => c.out.Duty_b | .Duty_c => c.out.Duty_c
  | .PWM_EN => boolWord c.out.PWM_EN

/-- What a HOST write stores (R63): a register of class RW takes `v`, an integer register the low bits
of its width (R8); STATUS and MODE have their own rules; a register of class RO is unchanged (R67). The
command that a write to CMD also executes is in Machine/Agents.lean. -/
def Context.hostStore (c : Context F32) (v : Word) : Reg → Context F32
  | .CMD => { c with ctl.CMD := v }
  | .STATUS => { c with ctl.CMD_ILLEGAL := statusHostWrite c.ctl.CMD_ILLEGAL v }
  | .MODE => { c with ctl.MODE := modeHostWrite c.ctl.MODE v }
  | .A0 => { c with a.A0 := v }
  | .A1 => { c with a.A1 := v }
  | .A2 => { c with a.A2 := v }
  | .A3 => { c with a.A3 := v }
  | .A4 => { c with a.A4 := v }
  | .A5 => { c with a.A5 := v }
  | .A6 => { c with a.A6 := v }
  | .A7 => { c with a.A7 := v }
  | .A8 => { c with a.A8 := v }
  | .A9 => { c with a.A9 := v }
  | .A10 => { c with a.A10 := v }
  | .A11 => { c with a.A11 := v }
  | .Wcc => { c with bw.Wcc := v }
  | .Wsc => { c with bw.Wsc := v }
  | .Wpll => { c with bw.Wpll := v }
  | .Wc_eemf => { c with bw.Wc_eemf := v }
  | .Kad => { c with tun.Kad := v }
  | .Kaq => { c with tun.Kaq := v }
  | .Ka_sc => { c with tun.Ka_sc := v }
  | .CC_LPF => { c with tun.CC_LPF := v }
  | .DT_A => { c with tun.DT_A := v }
  | .DT_B => { c with tun.DT_B := v }
  | .ACC_MAX => { c with tun.ACC_MAX := v }
  | .T_ALIGN1 => { c with tun.T_ALIGN1 := v }
  | .T_ALIGN2 => { c with tun.T_ALIGN2 := v }
  | .ADC_RAW0 => { c with smp.ADC_RAW0 := v.setWidth 12 }
  | .ADC_RAW1 => { c with smp.ADC_RAW1 := v.setWidth 12 }
  | .ADC_RAW2 => { c with smp.ADC_RAW2 := v.setWidth 12 }
  | .ADC_RAW3 => { c with smp.ADC_RAW3 := v.setWidth 12 }
  | .HALL_IN => { c with smp.HALL_IN := v.setWidth 3 }
  | .ADC_GAIN0 => { c with smp.ADC_GAIN0 := v }
  | .ADC_GAIN1 => { c with smp.ADC_GAIN1 := v }
  | .ADC_GAIN2 => { c with smp.ADC_GAIN2 := v }
  | .ADC_GAIN3 => { c with smp.ADC_GAIN3 := v }
  | .Idc => { c with meas.Idc := v }
  | .Wrpm_cmd => { c with sp.Wrpm_cmd := v }
  | .Torque_cmd => { c with sp.Torque_cmd := v }
  | .Id_ol_ref => { c with sp.Id_ol_ref := v }
  | .Iq_ol_ref => { c with sp.Iq_ol_ref := v }
  | .Vd_ol_ref => { c with sp.Vd_ol_ref := v }
  | .Vq_ol_ref => { c with sp.Vq_ol_ref := v }
  | .W_ol => { c with sp.W_ol := v }
  | .Duty_test_a => { c with sp.Duty_test_a := v }
  | .Duty_test_b => { c with sp.Duty_test_b := v }
  | .Duty_test_c => { c with sp.Duty_test_c := v }
  | .Hall_test_sel => { c with sp.Hall_test_sel := v.setWidth 3 }
  | .CYCLE_CNT | .R0 | .R1 | .R2 | .R3 | .R4 | .R5 | .Rs | .Ld | .Lq | .Lamf | .PP | .Jm | .Bm
  | .I_align | .I_rated | .I_limit | .Wrpm_rated | .Te_rated | .Kt | .INV_Kt | .Beta_foo | .Kpd
  | .Kid | .Kpq | .Kiq | .Kp_sc | .Ki_sc | .Kp_pll | .Ki_pll | .Kp_hall | .Ki_hall | .K1 | .K2
  | .K3 | .Kp_eemf | .Ki_eemf | .ADC1_Offset0 | .ADC1_Offset1 | .ADC1_Offset2 | .OFFSET_SUM0
  | .OFFSET_SUM1 | .OFFSET_SUM2 | .CAL_CNT | .CAL_DONE | .Ia | .Ib | .Ic | .Vdc | .Vdc_lpf
  | .Idsr_ref | .Idsr | .Idsr_err | .Vdsr_integ | .Vdsr_ref_unsat | .Vdsr_ref | .Vdsr_aw
  | .Iqsr_ref | .Iqsr | .Iqsr_err | .Vqsr_integ | .Vqsr_ref_unsat | .Vqsr_ref | .Vqsr_aw | .Idss
  | .Iqss | .Vdss_ref | .Vqss_ref | .Vas_ref | .Vbs_ref | .Vcs_ref | .Vsn | .Van_ref | .Vbn_ref
  | .Vcn_ref | .Iqsr_ref_unsat | .Thetar_sel | .Wr_sel | .Wrm_ref | .Wrm | .Wrm_err | .Te_integ
  | .Te_ref_unsat | .Te_ref | .Te_aw | .Hall_code | .Theta_hall_ref | .Theta_hall_err
  | .W_hall_integ | .Thetar_hall | .Wr_hall | .Thetarm_est | .Thetar_est | .Wrm_est | .Wrm_integ
  | .Te_est | .Te_ff | .Tl_integ | .Tl_est | .Thetarm_err | .Vdss_ref_old | .Vqss_ref_old
  | .Vdse | .Vqse | .Idse | .Iqse | .Idse_est | .Iqse_est | .EEMFd_integ | .EEMFq_integ
  | .EEMFd_est | .EEMFq_est | .Err_Thetar | .Align_stage | .Align_time | .Align_done
  | .Fault_code | .Fault_cnt | .F_Vdc | .F_Idc | .F_Ia | .F_Ib | .F_Ic | .F_Wr | .Theta_ol
  | .Duty_a | .Duty_b | .Duty_c | .PWM_EN => c

/-- `RegRead(i)` (R62): 0 where no register exists (R47). -/
def regRead (c : Context F32) (i : RegIndex) : Word :=
  match Reg.ofIndex i with
  | some r => c.read r
  | none => 0

/-- `RegWrite(i, v)` (R63) without the command of a write to CMD: no effect where no register exists
(R47, R67). -/
def regStore (c : Context F32) (i : RegIndex) (v : Word) : Context F32 :=
  match Reg.ofIndex i with
  | some r => c.hostStore v r
  | none => c

/-- The index of CMD (R25, R80). -/
def cmdIndex : RegIndex := 0x000

/-! ## The byte-addressed presentation (R61) -/

/-- "register index `i` is at byte address `4·i` and the word is little-endian". -/
def busIndex (addr : BitVec 11) : RegIndex := addr.extractLsb' 2 9

/-- "Every access is one whole, naturally aligned 32-bit word" (R76). -/
def busAligned (addr : BitVec 11) (width : Nat) : Bool := addr.extractLsb' 0 2 == 0#2 && width == 4

/-- The word of bytes given from the lowest address up, "bits 7 to 0 at the lowest address". -/
def wordOfBytes : List Byte → Word
  | [] => 0
  | b :: bs => b.setWidth 32 ||| (wordOfBytes bs <<< 8)

/-- The byte the register space shows at a byte address. -/
def busByte (c : Context F32) (addr : BitVec 11) : Byte :=
  (regRead c (busIndex addr)).extractLsb' (8 * (addr.extractLsb' 0 2).toNat) 8

end Sys2Proof.Machine
end

