-- ==== Sys2Proof/Machine/Ops.lean ====
section
/-! DEFINITION. The operations several rules share: fault entry, CORE's one exception entry, and the
clear that leaves it (`48_fault_supervisor.md` R242 to R246, `60_exceptions.md` R304, R306); the enable
request (`49_mode_dispatcher.md` R286); the zeroing of the controllers (R103, R109); the PI forms (R142,
R163, R185, R215). CORE has no handler and no saved return state (R304): after the entry whatever was
interrupted goes on. -/

namespace Sys2Proof.Machine

variable {N : Type}

/-- The two kinds of fault trigger (R240). -/
inductive FaultKind where
  | hardware
  | software
  deriving DecidableEq, Repr

/-- R242: "hardware fault, once latched, is never overwritten". Codes: 0 none, 1 hardware, 2 software. -/
def faultCodeUpdate (kind : FaultKind) (old : BitVec 2) : BitVec 2 :=
  match kind with
  | .hardware => 1
  | .software => if old = 1 then old else 2

/-- The snapshot (R246): the six registers as they stand at the instant of entry. -/
def snapshot (c : Context N) (code : BitVec 2) (cnt : Word) : FaultState N :=
  { Fault_code := code, Fault_cnt := cnt
    F_Vdc := c.meas.Vdc, F_Idc := c.meas.Idc, F_Ia := c.meas.Ia, F_Ib := c.meas.Ib
    F_Ic := c.meas.Ic, F_Wr := c.sl.Wr_sel }

/-- Fault entry (R243, R304). It is atomic (log entry 16), so that its order, "disabling output first", leaves no trace
in the state it ends in; it is done "on every trigger, whatever is already latched". -/
def faultEntry (P : Params N) (kind : FaultKind) (c : Context N) : Context N :=
  { c with
    out := ⟨zero P, zero P, zero P, false⟩
    ctl.MODE := setFlag (clearFlag c.ctl.MODE .READY) .FAULT
    flt := snapshot c (faultCodeUpdate kind c.flt.Fault_code) (c.flt.Fault_cnt + 1) }

/-- Leaving the faulted condition (R245, R306): "fault code reset to none, snapshot retained" and nothing
more. -/
def faultLeave (c : Context N) : Context N :=
  { c with flt.Fault_code := 0, ctl.MODE := clearFlag c.ctl.MODE .FAULT }

/-- The write of the enable request, `f` being the latch as it was read (R149, R286). -/
def enableWith (f : BitVec 2) (c : Context N) : Context N :=
  if f = 0 then { c with out.PWM_EN := true } else c

/-- The enable request, its read and its write with nothing between (R286). -/
def enableRequest (c : Context N) : Context N := enableWith c.flt.Fault_code c

/-- The duty outputs, taken as one write (R285); PWM_EN is unchanged. -/
def setDuties (d : N × N × N) (c : Context N) : Context N :=
  { c with out.Duty_a := d.1, out.Duty_b := d.2.1, out.Duty_c := d.2.2 }

/-- Registers 0x080 to 0x08E, 0x090 to 0x09A and 0x09D to 0 (R103, R109). -/
def zeroCurrent (P : Params N) (c : Context N) : Context N :=
  { c with cc := CurrentCtrl.zeros (zero P), md := Modulator.zeros (zero P) }

/-- RESET_CTRL's writes (R109), which the idle path performs too (R281). -/
def resetControllers (P : Params N) (c : Context N) : Context N :=
  { zeroCurrent P c with
    sc := SpeedCtrl.zeros (zero P)
    sp.Theta_ol := zero P
    sp.Duty_test_a := zero P
    sp.Duty_test_b := zero P
    sp.Duty_test_c := zero P }

/-- The integrator of a PI stage with anti-windup (R142, R163):
`integ + ((Ki · (err - (Ka · aw))) · Ts)`. -/
def piIntegAw (P : Params N) (ki ka err aw integ : N) : N :=
  P.add integ (P.mul (P.mul ki (P.sub err (P.mul ka aw))) P.Ts)

/-- The integrator of a PI stage without anti-windup (R185, R215): `integ + ((Ki · err) · Ts)`. -/
def piInteg (P : Params N) (ki err integ : N) : N := P.add integ (P.mul (P.mul ki err) P.Ts)

/-- The output of every PI stage, the integrator already updated: `(Kp · err) + integ`. -/
def piOut (P : Params N) (kp err integ : N) : N := P.add (P.mul kp err) integ

end Sys2Proof.Machine
end

