-- ==== Sys2Proof/Machine/Transforms.lean ====
section
/-! DEFINITION. The coordinate transform and modulation engine (`41_transforms_modulation.md`): CLARKE,
PARK, IPARK, ICLARKE, SVM_OFFSET, DT_COMP, DUTY, WRAP, and the advanced angle (R128). -/

namespace Sys2Proof.Machine

variable {N : Type}

/-! ## The functions -/

/-- CLARKE's (α, β) (R121). -/
def clarke (P : Params N) (a b c : N) : N × N :=
  (P.div (P.sub (P.sub (P.mul (P.ofDecimal 2 1) a) b) c) (P.ofDecimal 3 1),
    P.mul (P.sub b c) P.invSqrt3)

/-- PARK's (d, q) (R122); `s` and `c` are a sine and a cosine. -/
def park (P : Params N) (alpha beta s c : N) : N × N :=
  (P.add (P.mul alpha c) (P.mul beta s), P.sub (P.mul beta c) (P.mul alpha s))

/-- IPARK's (α, β) (R123). -/
def ipark (P : Params N) (d q s c : N) : N × N :=
  (P.sub (P.mul d c) (P.mul q s), P.add (P.mul d s) (P.mul q c))

/-- ICLARKE's (a, b, c) (R124). -/
def iclarke (P : Params N) (alpha beta : N) : N × N × N :=
  let x := P.mul (P.ofDecimal (-1) 2) alpha
  let y := P.mul (P.mul (P.ofDecimal 1 2) P.sqrt3) beta
  (alpha, P.add x y, P.sub x y)

/-- The min-max offset (R125, R148). -/
def svmOffset (P : Params N) (va vb vc : N) : N :=
  P.mul (P.ofDecimal (-1) 2) (P.add (max3 P va vb vc) (min3 P va vb vc))

/-- The dead-time compensation term `A · atan(B · I)` (R126, R148). -/
def dtComp (P : Params N) (dtA dtB i : N) : N := P.mul dtA (P.atan (P.mul dtB i))

/-- The duty of a phase voltage (R127, R149). -/
def duty (P : Params N) (free v vdc : N) : N :=
  clamp P free (P.add (P.div v vdc) (P.ofDecimal 1 2)) (P.ofDecimal 0 1) (P.ofDecimal 1 1)

/-- The advanced angle (R128): `theta + ((1.5 · Ts) · w)`, not wrapped. -/
def advAngle (P : Params N) (theta w : N) : N :=
  P.add theta (P.mul (P.mul (P.ofDecimal 3 2) P.Ts) w)

/-! ## The commands (R120): operands from A registers, results to R registers, nothing else -/

/-- CLARKE (R121). -/
def execClarke (s : State) : Host.Outcome State Fault Refusal :=
  .next { s with ctx := s.ctx.result2 (clarke hw s.ctx.a.A0 s.ctx.a.A1 s.ctx.a.A2) }

/-- PARK (R122). -/
def execPark (s : State) : Host.Outcome State Fault Refusal :=
  .next { s with ctx := s.ctx.result2 (park hw s.ctx.a.A0 s.ctx.a.A1 s.ctx.a.A2 s.ctx.a.A3) }

/-- IPARK (R123). -/
def execIpark (s : State) : Host.Outcome State Fault Refusal :=
  .next { s with ctx := s.ctx.result2 (ipark hw s.ctx.a.A0 s.ctx.a.A1 s.ctx.a.A2 s.ctx.a.A3) }

/-- ICLARKE (R124). -/
def execIclarke (s : State) : Host.Outcome State Fault Refusal :=
  .next { s with ctx := s.ctx.result3 (iclarke hw s.ctx.a.A0 s.ctx.a.A1) }

/-- SVM_OFFSET (R125). -/
def execSvmOffset (s : State) : Host.Outcome State Fault Refusal :=
  let a := s.ctx.a
  let off := svmOffset hw a.A0 a.A1 a.A2
  .next { s with ctx := s.ctx.result4 (off, hw.add a.A0 off, hw.add a.A1 off, hw.add a.A2 off) }

/-- DT_COMP (R126): it "computes the term whatever MODE.COMP is". -/
def execDtComp (s : State) : Host.Outcome State Fault Refusal :=
  .next { s with ctx := s.ctx.result1 (dtComp hw s.ctx.tun.DT_A s.ctx.tun.DT_B s.ctx.a.A0) }

/-- DUTY (R127). -/
def execDuty (s : State) : Host.Outcome State Fault Refusal :=
  .next { s with ctx := s.ctx.result1 (duty hw (hw.freeClamp s.draws .dutyA) s.ctx.a.A0 s.ctx.a.A1) }

/-- WRAP (R134). -/
def execWrap (s : State) : Host.Outcome State Fault Refusal :=
  .next { s with ctx := s.ctx.result1 (wrap hw s.ctx.a.A0) }

end Sys2Proof.Machine
end

