-- ==== Sys2Proof/Machine/CurrentController.lean ====
section
/-! DEFINITION. The current controller (`42_current_controller.md`): CC_STEP, one function for each of
its stages. `fr` gives the free value of an undefined clamp at each place (R11, X3); `comp` is MODE.COMP
as the cycle's snapshot holds it, or as it was when the command began (R148). -/

namespace Sys2Proof.Machine

variable {N : Type}

/-- Stage 1, references and measurement (R141). -/
def ccMeasure (P : Params N) (idRef iqRef theta : N) (c : Context N) : Context N :=
  let ab := clarke P c.meas.Ia c.meas.Ib c.meas.Ic
  let dq := park P ab.1 ab.2 (P.sin theta) (P.cos theta)
  { c with
    cc.Idsr_ref := idRef, cc.Iqsr_ref := iqRef
    md.Idss := ab.1, md.Iqss := ab.2
    cc.Idsr := dq.1, cc.Iqsr := dq.2 }

/-- Stages 2 to 5: the PI (R142), the feed-forward (R143), the resistive term (R144) and the unsaturated
output (R145), after stage 1. -/
def ccUnsat (P : Params N) (w : N) (c : Context N) : Context N :=
  let errD := P.sub c.cc.Idsr_ref c.cc.Idsr
  let integD := piIntegAw P c.gain.Kid c.tun.Kad errD c.cc.Vdsr_aw c.cc.Vdsr_integ
  let errQ := P.sub c.cc.Iqsr_ref c.cc.Iqsr
  let integQ := piIntegAw P c.gain.Kiq c.tun.Kaq errQ c.cc.Vqsr_aw c.cc.Vqsr_integ
  let ffD := P.neg (P.mul (P.mul w c.par.Lq) c.cc.Iqsr_ref)
  let ffQ := P.mul w (P.add (P.mul c.par.Ld c.cc.Idsr_ref) c.par.Lamf)
  let rcD := P.resComp .d c.cc.Idsr_ref c.cc.Idsr c.par.Rs
  let rcQ := P.resComp .q c.cc.Iqsr_ref c.cc.Iqsr c.par.Rs
  { c with
    cc.Idsr_err := errD, cc.Vdsr_integ := integD
    cc.Iqsr_err := errQ, cc.Vqsr_integ := integQ
    cc.Vdsr_ref_unsat := P.add (P.add (piOut P c.gain.Kpd errD integD) ffD) rcD
    cc.Vqsr_ref_unsat := P.add (P.add (piOut P c.gain.Kpq errQ integQ) ffQ) rcQ }

/-- Stage 6, the clamp and the anti-windup term (R146). -/
def ccClamp (P : Params N) (fr : ClampSite → N) (c : Context N) : Context N :=
  let vlim := P.mul c.meas.Vdc P.invSqrt3
  let vd := clamp P (fr .vd) c.cc.Vdsr_ref_unsat (P.neg vlim) vlim
  let vq := clamp P (fr .vq) c.cc.Vqsr_ref_unsat (P.neg vlim) vlim
  { c with
    cc.Vdsr_ref := vd, cc.Vdsr_aw := P.sub c.cc.Vdsr_ref_unsat vd
    cc.Vqsr_ref := vq, cc.Vqsr_aw := P.sub c.cc.Vqsr_ref_unsat vq }

/-- Stage 7, the inverse transforms at the advanced angle (R147). -/
def ccInverse (P : Params N) (theta w : N) (c : Context N) : Context N :=
  let adv := advAngle P theta w
  let ab := ipark P c.cc.Vdsr_ref c.cc.Vqsr_ref (P.sin adv) (P.cos adv)
  let abc := iclarke P ab.1 ab.2
  { c with
    md.Vdss_ref := ab.1, md.Vqss_ref := ab.2
    md.Vas_ref := abc.1, md.Vbs_ref := abc.2.1, md.Vcs_ref := abc.2.2 }

/-- The three phase-current references of the compensation (R148), at the advanced angle. -/
def phaseCurrentRefs (P : Params N) (theta w : N) (c : Context N) : N × N × N :=
  let adv := advAngle P theta w
  let ab := ipark P c.cc.Idsr_ref c.cc.Iqsr_ref (P.sin adv) (P.cos adv)
  iclarke P ab.1 ab.2

/-- Stage 8, the offset and the optional compensation added after it (R148). -/
def ccOffset (P : Params N) (comp : Bool) (theta w : N) (c : Context N) : Context N :=
  let off := svmOffset P c.md.Vas_ref c.md.Vbs_ref c.md.Vcs_ref
  let i := phaseCurrentRefs P theta w c
  let shift (v i : N) : N :=
    if comp then P.add (P.add v off) (dtComp P c.tun.DT_A c.tun.DT_B i) else P.add v off
  { c with
    md.Vsn := off
    md.Van_ref := shift c.md.Vas_ref i.1
    md.Vbn_ref := shift c.md.Vbs_ref i.2.1
    md.Vcn_ref := shift c.md.Vcs_ref i.2.2 }

/-- Stage 9 up to point P1, the duties (R149). -/
def ccDuties (P : Params N) (fr : ClampSite → N) (c : Context N) : Context N :=
  setDuties
    (duty P (fr .dutyA) c.md.Van_ref c.meas.Vdc, duty P (fr .dutyB) c.md.Vbn_ref c.meas.Vdc,
      duty P (fr .dutyC) c.md.Vcn_ref c.meas.Vdc) c

/-- Stages 7, 8 and 9 up to point P1, which OL_VOLTAGE performs alone (R277). -/
def ccModulate (P : Params N) (fr : ClampSite → N) (comp : Bool) (theta w : N) (c : Context N) :
    Context N :=
  ccDuties P fr (ccOffset P comp theta w (ccInverse P theta w c))

/-- CC_STEP up to point P1 (R140): refused when CC_LPF is not 0 (R145, X4). -/
def ccDrive (P : Params N) (fr : ClampSite → N) (comp : Bool) (idRef iqRef theta w : N)
    (c : Context N) : Except Refusal (Context N) :=
  if P.eq c.tun.CC_LPF (P.ofDecimal 0 1) then
    .ok (ccModulate P fr comp theta w (ccClamp P fr (ccUnsat P w (ccMeasure P idRef iqRef theta c))))
  else .error .smoothing

/-- CC_STEP whole (R140): the enable request follows with nothing between. -/
def ccStep (P : Params N) (fr : ClampSite → N) (comp : Bool) (idRef iqRef theta w : N)
    (c : Context N) : Except Refusal (Context N) :=
  (ccDrive P fr comp idRef iqRef theta w c).map enableRequest

/-- A register file or a refusal as the outcome of a command. -/
def outcomeOf (s : State) : Except Refusal (Context F32) → Host.Outcome State Fault Refusal
  | .ok c => .next { s with ctx := c }
  | .error r => .refused r

/-- CC_STEP as a command (R140): operands A0 to A3. -/
def execCcStep (s : State) : Host.Outcome State Fault Refusal :=
  outcomeOf s (ccStep hw (hw.freeClamp s.draws) (flag s.ctx.ctl.MODE .COMP)
    s.ctx.a.A0 s.ctx.a.A1 s.ctx.a.A2 s.ctx.a.A3 s.ctx)

end Sys2Proof.Machine
end

