-- ==== Sys2Proof/Machine/Alignment.lean ====
section
/-! DEFINITION. The alignment state machine (`47_alignment.md`): ALIGN_STEP. The stages are 0 Init,
1 Energize, 2 Decay, 3 Done (R39, R87). -/

namespace Sys2Proof.Machine

variable {N : Type}

/-- Actions of stage 0, Init (R226). -/
def alignInit (P : Params N) (c : Context N) : Context N :=
  { c with
    sl := ⟨P.ofDecimal 0 1, P.ofDecimal 0 1⟩
    cc.Idsr_ref := c.par.I_align
    al := { Align_stage := 1, Align_time := P.ofDecimal 0 1, Align_done := false } }

/-- Actions of stage 3, Done (R229). -/
def alignDone (c : Context N) : Context N :=
  { c with
    al.Align_done := true, al.Align_stage := 0
    ctl.MODE := clearFlag c.ctl.MODE .ALIGN }

/-- Whether the actions of stage `st` run the current controller, and so end in an enable request
(R227, R228). -/
def alignDrives (st : BitVec 2) : Bool := st == 1 || st == 2

/-- The actions of stage `st` up to the enable request (R226 to R229). -/
def alignActions (P : Params N) (fr : ClampSite → N) (comp : Bool) (st : BitVec 2) (c : Context N) :
    Except Refusal (Context N) :=
  let z := P.ofDecimal 0 1
  if st = 0 then .ok (alignInit P c)
  else if st = 1 then ccDrive P fr comp c.cc.Idsr_ref z z z c
  else if st = 2 then ccDrive P fr comp z z z z { c with cc.Idsr_ref := z }
  else .ok (alignDone c)

/-- The time accumulation and the dwell test of the stage `st` the call began in (R230). -/
def alignTail (P : Params N) (st : BitVec 2) (c : Context N) : Context N :=
  let t := P.add c.al.Align_time P.Ts
  let c := { c with al.Align_time := t }
  if st = 1 && P.le c.tun.T_ALIGN1 t then { c with al.Align_stage := 2 }
  else if st = 2 && P.le c.tun.T_ALIGN2 t then alignDone c
  else c

/-- ALIGN_STEP (R225): the actions of the stage, the enable request where they make one, the tail. -/
def alignStep (P : Params N) (fr : ClampSite → N) (comp : Bool) (c : Context N) :
    Except Refusal (Context N) :=
  let st := c.al.Align_stage
  (alignActions P fr comp st c).map
    (fun c => alignTail P st (if alignDrives st then enableRequest c else c))

/-- ALIGN_STEP as a command (R225). -/
def execAlignStep (s : State) : Host.Outcome State Fault Refusal :=
  outcomeOf s (alignStep hw (hw.freeClamp s.draws) (flag s.ctx.ctl.MODE .COMP) s.ctx)

end Sys2Proof.Machine
end

