-- ==== Sys2Proof/Machine/ParamsGains.lean ====
section
/-! DEFINITION. The parameter and gain model (`40_params_gains.md`): NOP, INIT_PARAMS, INIT_CC, INIT_SC,
INIT_PLL, INIT_EEMF, INIT_FOO, UPDATE_GAINS, RESET_CTRL. A product `a·b·c` is `(a·b)·c` (R100). -/

namespace Sys2Proof.Machine

variable {N : Type}

/-! ## The gain formulas -/

/-- `Ki_sc`: `Kp_sc · Wsc · 0.25` (R104, R108). -/
def kiSc (P : Params N) (kp wsc : N) : N := P.mul (P.mul kp wsc) (P.ofDecimal 1 4)

/-- The proportional gain of a PLL pair: `2 · 0.707 · W` (R105, R108). -/
def kpPll (P : Params N) (w : N) : N := P.mul (P.mul (P.ofDecimal 2 1) (P.ofDecimal 707 1000)) w

/-- The integral gain of a PLL pair: `W · W` (R105, R108). -/
def kiPll (P : Params N) (w : N) : N := P.mul w w

/-- `W_h = 2 · pi · 10`, "not a register" (R105, R108). -/
def wHall (P : Params N) : N := P.mul (P.mul (P.ofDecimal 2 1) P.pi) (P.ofDecimal 10 1)

/-! ## The operations on the register file -/

/-- INIT_PARAMS (R102). -/
def initParams (P : Params N) (c : Context N) : Context N :=
  let kt := P.mul (P.mul (P.ofDecimal 3 2) c.a.A4) c.a.A3
  { c with
    par :=
      { Rs := c.a.A0, Ld := c.a.A1, Lq := c.a.A2, Lamf := c.a.A3, PP := c.a.A4, Jm := c.a.A5
        Bm := c.a.A6, I_align := c.a.A7, I_rated := c.a.A8, I_limit := c.a.A9
        Wrpm_rated := c.a.A10, Te_rated := c.a.A11
        Kt := kt, INV_Kt := P.div (P.ofDecimal 1 1) kt } }

/-- The current-controller gains from a bandwidth (R103, R108). -/
def ccGains (P : Params N) (wcc : N) (par : ParamSet N) (g : Gains N) : Gains N :=
  { g with
    Kpd := P.mul wcc par.Ld, Kid := P.mul wcc par.Rs, Kpq := P.mul wcc par.Lq
    Kiq := P.mul wcc par.Rs }

/-- The speed-controller gains from a bandwidth (R104, R108). -/
def scGains (P : Params N) (wsc : N) (par : ParamSet N) (g : Gains N) : Gains N :=
  { g with Kp_sc := P.mul par.Jm wsc, Ki_sc := kiSc P (P.mul par.Jm wsc) wsc }

/-- The two PLL gain pairs from a bandwidth (R105, R108). -/
def pllGains (P : Params N) (wpll : N) (g : Gains N) : Gains N :=
  { g with
    Kp_pll := kpPll P wpll, Ki_pll := kiPll P wpll, Kp_hall := kpPll P (wHall P)
    Ki_hall := kiPll P (wHall P) }

/-- The EEMF gain pair from a bandwidth (R106, R211): both axes use Ld. -/
def eemfGains (P : Params N) (wc : N) (par : ParamSet N) (g : Gains N) : Gains N :=
  { g with Kp_eemf := P.mul par.Ld wc, Ki_eemf := P.mul par.Rs wc }

/-- INIT_CC (R103). -/
def initCc (P : Params N) (c : Context N) : Context N :=
  setDuties (zero P, zero P, zero P)
    { zeroCurrent P c with bw.Wcc := c.a.A0, gain := ccGains P c.a.A0 c.par c.gain }

/-- INIT_SC (R104): A1 "is read by nothing". -/
def initSc (P : Params N) (c : Context N) : Context N :=
  { c with bw.Wsc := c.a.A0, gain := scGains P c.a.A0 c.par c.gain }

/-- INIT_PLL (R105). -/
def initPll (P : Params N) (c : Context N) : Context N :=
  { c with bw.Wpll := c.a.A0, gain := pllGains P c.a.A0 c.gain }

/-- INIT_EEMF (R106). -/
def initEemf (P : Params N) (c : Context N) : Context N :=
  { c with bw.Wc_eemf := c.a.A0, gain := eemfGains P c.a.A0 c.par c.gain }

/-- INIT_FOO (R107). `Wso`, `l1`, `l2`, `l3` "are not registers". -/
def initFoo (P : Params N) (c : Context N) : Context N :=
  let wso := P.neg c.a.A0
  let l1 := P.sub (P.mul (P.ofDecimal (-2) 1) wso) (P.div c.par.Bm c.par.Jm)
  let l2 := P.sub (P.mul (P.ofDecimal 2 1) (P.mul wso wso)) (P.div (P.mul l1 c.par.Bm) c.par.Jm)
  let l3 := P.mul (P.mul (P.mul wso wso) wso) c.par.Jm
  { c with
    bw.Beta_foo := c.a.A0
    gain := { c.gain with K1 := l1, K2 := P.mul c.par.Jm l2, K3 := P.neg l3 } }

/-- UPDATE_GAINS (R108): the gain registers its pseudocode names, ten of them where its text says eleven
(log entry 11), "and nothing else". -/
def updateGains (P : Params N) (c : Context N) : Context N :=
  { c with
    gain := pllGains P c.bw.Wpll (scGains P c.bw.Wsc c.par (ccGains P c.bw.Wcc c.par c.gain)) }

/-! ## The commands -/

/-- NOP (R101): "Effect: none; no register changes". -/
def execNop (s : State) : Host.Outcome State Fault Refusal := .next s

/-- INIT_PARAMS (R102). -/
def execInitParams (s : State) : Host.Outcome State Fault Refusal :=
  .next { s with ctx := initParams hw s.ctx }

/-- INIT_CC (R103). -/
def execInitCc (s : State) : Host.Outcome State Fault Refusal :=
  .next { s with ctx := initCc hw s.ctx }

/-- INIT_SC (R104). -/
def execInitSc (s : State) : Host.Outcome State Fault Refusal :=
  .next { s with ctx := initSc hw s.ctx }

/-- INIT_PLL (R105). -/
def execInitPll (s : State) : Host.Outcome State Fault Refusal :=
  .next { s with ctx := initPll hw s.ctx }

/-- INIT_EEMF (R106). -/
def execInitEemf (s : State) : Host.Outcome State Fault Refusal :=
  .next { s with ctx := initEemf hw s.ctx }

/-- INIT_FOO (R107). -/
def execInitFoo (s : State) : Host.Outcome State Fault Refusal :=
  .next { s with ctx := initFoo hw s.ctx }

/-- UPDATE_GAINS (R108). -/
def execUpdateGains (s : State) : Host.Outcome State Fault Refusal :=
  .next { s with ctx := updateGains hw s.ctx }

/-- RESET_CTRL (R109). -/
def execResetCtrl (s : State) : Host.Outcome State Fault Refusal :=
  .next { s with ctx := resetControllers hw s.ctx }

end Sys2Proof.Machine
end

