-- ==== Sys2Proof/Machine/EemfObserver.lean ====
section
/-! DEFINITION. The extended sensorless observer (`46_eemf_observer.md`): EEMF_STEP. -/

namespace Sys2Proof.Machine

variable {N : Type}

/-- Stage 6, the floor clamp (R216): strict, "The value set is +1.0 whatever the sign". -/
def eemfFloor (P : Params N) (x : N) : N :=
  if P.lt (P.abs x) (P.ofDecimal 1 1) then P.ofDecimal 1 1 else x

/-- Stage 8, one axis of the current model (R218): `i + ((((v - e) - (Rs · i)) / Ld) · Ts)`. -/
def currentModel (P : Params N) (rs ld v e i : N) : N :=
  P.add i (P.mul (P.div (P.sub (P.sub v e) (P.mul rs i)) ld) P.Ts)

/-- EEMF_STEP (R210) with operands `thetaP` and `wP`: R211 to R219 in order. -/
def eemfStep (P : Params N) (thetaP wP : N) (c : Context N) : Context N :=
  let g := eemfGains P c.bw.Wc_eemf c.par c.gain                                   -- R211
  let half := P.ofDecimal 1 2
  let va := P.mul half (P.add c.md.Vdss_ref c.eemf.Vdss_ref_old)                   -- R212
  let vb := P.mul half (P.add c.md.Vqss_ref c.eemf.Vqss_ref_old)
  let v := park P va vb (P.sin thetaP) (P.cos thetaP)                              -- R213
  let ab := clarke P c.meas.Ia c.meas.Ib c.meas.Ic
  let i := park P ab.1 ab.2 (P.sin thetaP) (P.cos thetaP)
  let ed := P.sub i.1 c.eemf.Idse_est                                              -- R214
  let eq := P.sub i.2 c.eemf.Iqse_est
  let dInteg := piInteg P g.Ki_eemf ed c.eemf.EEMFd_integ                          -- R215
  let dEst := piOut P g.Kp_eemf ed dInteg
  let qInteg := piInteg P g.Ki_eemf eq c.eemf.EEMFq_integ
  let qEst := eemfFloor P (piOut P g.Kp_eemf eq qInteg)                            -- R216
  let vdC := P.add v.1 (P.mul (P.mul wP c.par.Lq) i.2)                             -- R218
  let vqC := P.sub v.2 (P.mul (P.mul wP c.par.Lq) i.1)
  { c with
    gain := g
    eemf :=
      { Vdse := v.1, Vqse := v.2, Idse := i.1, Iqse := i.2
        EEMFd_integ := dInteg, EEMFq_integ := qInteg, EEMFd_est := dEst, EEMFq_est := qEst
        Err_Thetar := P.atan2 (P.neg dEst) qEst                                    -- R217
        Idse_est := currentModel P c.par.Rs c.par.Ld vdC dEst c.eemf.Idse_est
        Iqse_est := currentModel P c.par.Rs c.par.Ld vqC qEst c.eemf.Iqse_est
        Vdss_ref_old := c.md.Vdss_ref, Vqss_ref_old := c.md.Vqss_ref } }           -- R219

/-- EEMF_STEP as a command (R210): operands A0, A1. -/
def execEemfStep (s : State) : Host.Outcome State Fault Refusal :=
  .next { s with ctx := eemfStep hw s.ctx.a.A0 s.ctx.a.A1 s.ctx }

end Sys2Proof.Machine
end

