-- ==== Sys2Proof/Machine/FaultSupervisor.lean ====
section
/-! DEFINITION. The fault supervisor (`48_fault_supervisor.md`): SW_FAULT_CHECK, HW_FAULT, FAULT_CLEAR. -/

namespace Sys2Proof.Machine

variable {N : Type}

/-- R241: "any phase current magnitude ≥ 80 A"; false of a NaN. -/
def overCurrent (P : Params N) (c : Context N) : Bool :=
  P.le (P.ofDecimal 80 1) (P.abs c.meas.Ia) || P.le (P.ofDecimal 80 1) (P.abs c.meas.Ib) ||
    P.le (P.ofDecimal 80 1) (P.abs c.meas.Ic)

/-- SW_FAULT_CHECK (R241). -/
def swFaultCheck (P : Params N) (c : Context N) : Context N :=
  if overCurrent P c then faultEntry P .software c else c

/-- SW_FAULT_CHECK as a command (R241). -/
def execSwFaultCheck (s : State) : Host.Outcome State Fault Refusal :=
  .next { s with ctx := swFaultCheck hw s.ctx }

/-- HW_FAULT (R244): the command, and the HWFAULT event. -/
def execHwFault (s : State) : Host.Outcome State Fault Refusal :=
  .next { s with ctx := faultEntry hw .hardware s.ctx }

/-- FAULT_CLEAR (R245). -/
def execFaultClear (s : State) : Host.Outcome State Fault Refusal :=
  .next { s with ctx := faultLeave s.ctx }

end Sys2Proof.Machine
end

