-- ==== Sys2Proof/Machine/FullOrderObserver.lean ====
section
/-! DEFINITION. The full-order speed and load-torque observer (`45_full_order_observer.md`): FOO_STEP.A
and FOO_STEP.B, "one algorithm parameterized by a feedback-mode flag". -/

namespace Sys2Proof.Machine

variable {N : Type}

/-- The two variants (R195). -/
inductive FooVariant where
  | A   -- RCD's "4-34"
  | B   -- RCD's "4-35"
  deriving DecidableEq, Repr

/-- FOO_STEP (R195) with operand `err`: the shared update (R196), the variant (R197, R198), the outputs
(R199). -/
def fooStep (P : Params N) (v : FooVariant) (err : N) (c : Context N) : Context N :=
  let te := P.mul c.gain.K2 err
  let tl := P.add c.foo.Tl_integ (P.mul (P.mul c.gain.K3 err) P.Ts)
  let ff := P.mul c.par.Kt c.cc.Iqsr
  let fbk := c.foo.Wrm_integ
  let torque := P.sub (P.add (P.add te ff) tl) (P.mul c.par.Bm fbk)
  let integ := P.add c.foo.Wrm_integ (P.mul (P.div torque c.par.Jm) P.Ts)
  let rated := P.add integ (P.mul c.gain.K1 err)
  let wrm := match v with
    | .A => integ
    | .B => rated
  let rate := match v with
    | .A => rated
    | .B => wrm
  let thetarm := wrap P (P.add c.foo.Thetarm_est (P.mul rate P.Ts))
  { c with
    foo :=
      { Thetarm_err := err, Te_est := te, Tl_integ := tl, Te_ff := ff, Wrm_integ := integ
        Wrm_est := wrm, Thetarm_est := thetarm
        Thetar_est := wrap P (P.mul c.par.PP thetarm), Tl_est := P.neg tl } }

/-- FOO_STEP.A as a command (R195, R197): operand A0. -/
def execFooStepA (s : State) : Host.Outcome State Fault Refusal :=
  .next { s with ctx := fooStep hw .A s.ctx.a.A0 s.ctx }

/-- FOO_STEP.B as a command (R195, R198): operand A0. -/
def execFooStepB (s : State) : Host.Outcome State Fault Refusal :=
  .next { s with ctx := fooStep hw .B s.ctx.a.A0 s.ctx }

end Sys2Proof.Machine
end

