-- ==== Sys2Proof/Machine/HallPll.lean ====
section
/-! DEFINITION. The Hall PLL observer (`44_hall_pll.md`): HALL_STEP. -/

namespace Sys2Proof.Machine

variable {N : Type}

/-- The mapping table (R182) and the hold of codes 0 and 7 (R183): `old` is the reference as it was. -/
def hallRef (P : Params N) (old : N) (code : BitVec 3) : N :=
  let third := P.div P.pi (P.ofDecimal 3 1)
  let twoThirds := P.div (P.mul (P.ofDecimal 2 1) P.pi) (P.ofDecimal 3 1)
  if code = 6 then P.ofDecimal 0 1
  else if code = 4 then third
  else if code = 5 then twoThirds
  else if code = 1 then P.pi
  else if code = 3 then P.neg twoThirds
  else if code = 2 then P.neg third
  else old

/-- The gain pair the Hall PLL reads (R187). -/
def hallGains (P : Params N) (g : Gains N) : N × N :=
  match P.hallGainSel with
  | .secondary => (g.Kp_hall, g.Ki_hall)
  | .primary => (g.Kp_pll, g.Ki_pll)

/-- HALL_STEP (R180): R181, R182 or R183, R184, R185, R186. -/
def hallStep (P : Params N) (c : Context N) : Context N :=
  let code := hallCode c.smp.HALL_IN
  let ref := hallRef P c.hall.Theta_hall_ref code
  let err := wrap P (P.sub ref c.hall.Thetar_hall)
  let integ := piInteg P (hallGains P c.gain).2 err c.hall.W_hall_integ
  let wr := piOut P (hallGains P c.gain).1 err integ
  { c with
    hall :=
      { Hall_code := code, Theta_hall_ref := ref, Theta_hall_err := err, W_hall_integ := integ
        Wr_hall := wr
        Thetar_hall := wrap P (P.add c.hall.Thetar_hall (P.mul wr P.Ts)) } }

/-- HALL_STEP as a command (R180). -/
def execHallStep (s : State) : Host.Outcome State Fault Refusal :=
  .next { s with ctx := hallStep hw s.ctx }

end Sys2Proof.Machine
end

