-- ==== Sys2Proof/Machine/SpeedController.lean ====
section
/-! DEFINITION. The speed controller and the torque command (`43_speed_controller.md`): SC_STEP,
TORQUE_CTRL and the torque-to-current conversion (R166). -/

namespace Sys2Proof.Machine

variable {N : Type}

/-- The dead-zone (R161, R165), strict: exactly zero where `abs x < 0.05 · rated`. -/
def deadZone (P : Params N) (rated x : N) : N :=
  if P.lt (P.abs x) (P.mul (P.ofDecimal 1 20) rated) then P.ofDecimal 0 1 else x

/-- The ramp (R162): the working reference moves toward the target by at most one step. -/
def ramp (P : Params N) (free accMax ref cmdDz : N) : N :=
  let target := P.mul cmdDz (rpm2rad P)
  let step := P.mul (P.mul accMax (rpm2rad P)) P.Ts
  P.add ref (clamp P free (P.sub target ref) (P.neg step) step)

/-- SC_STEP (R160 to R164) with operands `cmdRpm` and `wrm`. -/
def scStep (P : Params N) (fr : ClampSite → N) (cmdRpm wrm : N) (c : Context N) : Context N :=
  let ref := ramp P (fr .ramp) c.tun.ACC_MAX c.sc.Wrm_ref (deadZone P c.par.Wrpm_rated cmdRpm)
  let err := P.sub ref wrm
  let integ := piIntegAw P c.gain.Ki_sc c.tun.Ka_sc err c.sc.Te_aw c.sc.Te_integ
  let unsat := piOut P c.gain.Kp_sc err integ
  let te := clamp P (fr .torque) unsat (P.neg c.par.Te_rated) c.par.Te_rated
  { c with
    sc :=
      { Wrm_ref := ref, Wrm := wrm, Wrm_err := err, Te_integ := integ, Te_ref_unsat := unsat
        Te_ref := te, Te_aw := P.sub unsat te } }

/-- TORQUE_CTRL (R165): "It writes Te_ref and nothing else". -/
def torqueCtrl (P : Params N) (cmd : N) (c : Context N) : Context N :=
  let raw := P.mul (P.mul (P.sub cmd (P.ofDecimal 15 100)) (P.ofDecimal 20 1)) c.par.Te_rated
  { c with sc.Te_ref := deadZone P c.par.Te_rated raw }

/-- R166: `Iqsr_ref_unsat <- Te_ref / Kt`. -/
def torqueToCurrent (P : Params N) (c : Context N) : Context N :=
  { c with md.Iqsr_ref_unsat := P.div c.sc.Te_ref c.par.Kt }

/-- R166: `iq_ref = clamp(Iqsr_ref_unsat, -I_limit, I_limit)`. -/
def iqLimited (P : Params N) (fr : ClampSite → N) (c : Context N) : N :=
  clamp P (fr .iq) c.md.Iqsr_ref_unsat (P.neg c.par.I_limit) c.par.I_limit

/-- SC_STEP as a command (R160): operands A0, A1. -/
def execScStep (s : State) : Host.Outcome State Fault Refusal :=
  .next { s with ctx := scStep hw (hw.freeClamp s.draws) s.ctx.a.A0 s.ctx.a.A1 s.ctx }

/-- TORQUE_CTRL as a command (R165): operand A0. -/
def execTorqueCtrl (s : State) : Host.Outcome State Fault Refusal :=
  .next { s with ctx := torqueCtrl hw s.ctx.a.A0 s.ctx }

end Sys2Proof.Machine
end

