-- ==== Sys2Proof/Machine/ModeDispatcher.lean ====
section
/-! DEFINITION. The mode dispatcher (`49_mode_dispatcher.md`): the parts of one CYCLE, the function that
performs a part, and CYCLE itself, which performs them all. The same parts, taken one at a time with
other agents between them, are the cycle of a TICK event (Machine/Agents.lean). -/

namespace Sys2Proof.Machine

variable {N : Type}

/-- The behaviours of step S7 (R270). -/
inductive Behaviour where
  | RUN | HALL_TEST | DUTY_TEST | OL_CURRENT | VREF_GEN | OL_VOLTAGE | PARAM_EST | ALIGN | IDLE
  deriving DecidableEq, Repr

/-- R269: `active = (m.READY == 1) and (f == 0)`. -/
def active (m : Word) (f : BitVec 2) : Bool := flag m .READY && f == 0

/-- The choice of behaviour (R270), in RCD's priority order. -/
def behaviour (m : Word) (f : BitVec 2) : Behaviour :=
  if !active m f then .IDLE
  else if flag m .RUN then .RUN
  else if flag m .HALL_TEST then .HALL_TEST
  else if flag m .DUTY_TEST then .DUTY_TEST
  else if flag m .OL_CURRENT then .OL_CURRENT
  else if flag m .VREF_GEN then .VREF_GEN
  else if flag m .OL_VOLTAGE then .OL_VOLTAGE
  else if flag m .PARAM_EST then .PARAM_EST
  else if flag m .ALIGN then .ALIGN
  else .IDLE

/-! ## Steps S1 to S3 -/

/-- S1 (R261). -/
def countCycle (c : Context N) : Context N := { c with ctl.CYCLE_CNT := c.ctl.CYCLE_CNT + 1 }

/-- The accumulation of R263, before the completion test; `cnt` is the count just incremented. -/
def calAccumulate (P : Params N) (l : Locals) (cnt : Word) (k : Calibration N) : Calibration N :=
  if 5000#32 < cnt then
    { k with
      CAL_CNT := cnt
      OFFSET_SUM0 := P.add k.OFFSET_SUM0 (adcNum P l.raw0)
      OFFSET_SUM1 := P.add k.OFFSET_SUM1 (adcNum P l.raw1)
      OFFSET_SUM2 := P.add k.OFFSET_SUM2 (adcNum P l.raw2) }
  else { k with CAL_CNT := cnt }

/-- S3 while CAL_DONE is 0 (R263). -/
def calibrate (P : Params N) (l : Locals) (k : Calibration N) : Calibration N :=
  let k' := calAccumulate P l (k.CAL_CNT + 1) k
  if k'.CAL_CNT = 10000#32 then
    { k' with
      ADC1_Offset0 := P.div k'.OFFSET_SUM0 (P.ofDecimal 5000 1)
      ADC1_Offset1 := P.div k'.OFFSET_SUM1 (P.ofDecimal 5000 1)
      ADC1_Offset2 := P.div k'.OFFSET_SUM2 (P.ofDecimal 5000 1)
      CAL_DONE := true }
  else k'

/-- A phase current from its code (R264): `((raw - offset) / 81.9) · gain`. -/
def convCurrent (P : Params N) (raw : BitVec 12) (offset gain : N) : N :=
  P.mul (P.div (P.sub (adcNum P raw) offset) (P.ofDecimal 819 10)) gain

/-- The DC-link filter (R264): `(0.999 · old) + ((1 - 0.999) · v)`. -/
def vdcFilter (P : Params N) (raw : BitVec 12) (old : N) : N :=
  let v := P.div (adcNum P raw) (P.ofDecimal 2034 10)
  let w := P.ofDecimal 999 1000
  P.add (P.mul w old) (P.mul (P.sub (P.ofDecimal 1 1) w) v)

/-- The writes of Vdc_lpf and Vdc (R264). -/
def convVoltage (P : Params N) (l : Locals) (c : Context N) : Context N :=
  let v := vdcFilter P l.raw3 c.meas.Vdc_lpf
  { c with meas.Vdc_lpf := v, meas.Vdc := P.mul v c.smp.ADC_GAIN3 }

/-! ## Step S7 -/

/-- The sensorless observers (R268), run when `m.SENSORLESS` is 1, active or not. -/
def sensorless (P : Params N) (m : Word) (c : Context N) : Context N :=
  if flag m .SENSORLESS then
    let c := eemfStep P c.sl.Thetar_sel c.sl.Wr_sel c
    fooStep P (if flag m .FOO_VARIANT then .B else .A) (P.div c.eemf.Err_Thetar c.par.PP) c
  else c

/-- The open-loop angle generator (R278). -/
def openLoopAngle (P : Params N) (c : Context N) : N :=
  wrap P (P.add c.sp.Theta_ol (P.mul c.sp.W_ol P.Ts))

/-- The selected angle and speed (R271). -/
def selectSource (P : Params N) (b : Behaviour) (m : Word) (c : Context N) : Context N :=
  let openLoop := { c with
    sp.Theta_ol := openLoopAngle P c, sl := ⟨openLoopAngle P c, c.sp.W_ol⟩ }
  let estimate :=
    if flag m .SENSORLESS then
      { c with sl := ⟨c.foo.Thetar_est, P.mul c.par.PP c.foo.Wrm_est⟩ }
    else { c with sl := ⟨c.hall.Thetar_hall, c.hall.Wr_hall⟩ }
  match b with
  | .OL_CURRENT => openLoop
  | .OL_VOLTAGE => openLoop
  | .ALIGN => { c with sl := ⟨P.ofDecimal 0 1, P.ofDecimal 0 1⟩ }
  | .RUN => estimate
  | .HALL_TEST => estimate
  | .DUTY_TEST => estimate
  | .VREF_GEN => estimate
  | .PARAM_EST => estimate
  | .IDLE => estimate

/-- RUN up to point P1 (R272, R166). -/
def behaveRun (P : Params N) (fr : ClampSite → N) (m : Word) (c : Context N) :
    Except Refusal (Context N) :=
  let c :=
    if flag m .TORQUE_SEL then torqueCtrl P c.sp.Torque_cmd c
    else scStep P fr c.sp.Wrpm_cmd (P.div c.sl.Wr_sel c.par.PP) c
  let c := torqueToCurrent P c
  ccDrive P fr (flag m .COMP) (P.ofDecimal 0 1) (iqLimited P fr c) c.sl.Thetar_sel c.sl.Wr_sel c

/-- Whether a selector of the Hall-position test names a vector (R273, R87). -/
def hallVectorSelected (k : BitVec 3) : Bool := !(k == 0 || k == 7)

/-- HALL_TEST up to point P1 (R273). -/
def behaveHallTest (P : Params N) (c : Context N) : Context N :=
  if hallVectorSelected c.sp.Hall_test_sel then setDuties (P.hallTestVec c.sp.Hall_test_sel) c
  else { setDuties (zero P, zero P, zero P) c with out.PWM_EN := false }

/-- DUTY_TEST up to point P1 (R274). -/
def behaveDutyTest (P : Params N) (fr : ClampSite → N) (c : Context N) : Context N :=
  let unit (p : ClampSite) (x : N) : N := clamp P (fr p) x (P.ofDecimal 0 1) (P.ofDecimal 1 1)
  setDuties (unit .dutyA c.sp.Duty_test_a, unit .dutyB c.sp.Duty_test_b,
    unit .dutyC c.sp.Duty_test_c) c

/-- OL_VOLTAGE up to point P1 (R277). -/
def behaveOlVoltage (P : Params N) (fr : ClampSite → N) (m : Word) (c : Context N) : Context N :=
  ccModulate P fr (flag m .COMP) c.sl.Thetar_sel c.sl.Wr_sel
    { c with cc.Vdsr_ref := c.sp.Vd_ol_ref, cc.Vqsr_ref := c.sp.Vq_ol_ref }

/-- IDLE (R281): the duties are not written, READY and Fault_code are not changed. -/
def behaveIdle (P : Params N) (c : Context N) : Context N :=
  { resetControllers P c with out.PWM_EN := false, ctl.MODE := clearRunModes c.ctl.MODE }

/-- A behaviour up to point P1, and whether it ends in an enable request (R272 to R281). -/
def behave (P : Params N) (fr : ClampSite → N) (b : Behaviour) (m : Word) (c : Context N) :
    Except Refusal (Context N × Bool) :=
  match b with
  | .RUN => (behaveRun P fr m c).map (fun c => (c, true))
  | .HALL_TEST => .ok (behaveHallTest P c, hallVectorSelected c.sp.Hall_test_sel)
  | .DUTY_TEST => .ok (behaveDutyTest P fr c, true)
  | .OL_CURRENT =>
      (ccDrive P fr (flag m .COMP) c.sp.Id_ol_ref c.sp.Iq_ol_ref c.sl.Thetar_sel c.sl.Wr_sel c).map
        (fun c => (c, true))
  | .VREF_GEN => .error .vrefGen
  | .OL_VOLTAGE => .ok (behaveOlVoltage P fr m c, true)
  | .PARAM_EST => .error .paramEst
  | .ALIGN =>
      (alignActions P fr (flag m .COMP) c.al.Align_stage c).map
        (fun c' => (c', alignDrives c.al.Align_stage))
  | .IDLE => .ok (behaveIdle P c, false)

/-- The end of S7 after the latch was read: the enable (R286), the tail of ALIGN_STEP (R230) or the
alignment abort (R284). -/
def finishS7 (P : Params N) (l : Locals) (c : Context N) : Context N :=
  let c := if l.enReq then enableWith l.f2 c else c
  if behaviour l.m l.f = .ALIGN then alignTail P l.st c else { c with al.Align_stage := 0 }

/-! ## The parts in order -/

/-- Performs one part of a cycle (R260). -/
def phaseStep (P : Params N) (fr : ClampSite → N) (ph : Phase) (l : Locals) (c : Context N) :
    Except Refusal (Locals × Context N) :=
  match ph with
  | .S1 => .ok (l, countCycle c)
  | .S2 =>
      .ok ({ l with raw0 := c.smp.ADC_RAW0, raw1 := c.smp.ADC_RAW1, raw2 := c.smp.ADC_RAW2,
                    raw3 := c.smp.ADC_RAW3 }, c)
  | .S3a =>
      if c.cal.CAL_DONE then
        .ok ({ l with conv := true },
          { c with meas.Ia := convCurrent P l.raw0 c.cal.ADC1_Offset0 c.smp.ADC_GAIN0 })
      else .ok ({ l with conv := false }, { c with cal := calibrate P l c.cal })
  | .S3b =>
      .ok (l, if l.conv then
        { c with meas.Ib := convCurrent P l.raw1 c.cal.ADC1_Offset1 c.smp.ADC_GAIN1 } else c)
  | .S3c =>
      .ok (l, if l.conv then
        { c with meas.Ic := convCurrent P l.raw2 c.cal.ADC1_Offset2 c.smp.ADC_GAIN2 } else c)
  | .S3d => .ok (l, if l.conv then convVoltage P l c else c)
  | .S4 => .ok (l, swFaultCheck P c)
  | .S5 => .ok (l, updateGains P c)
  | .S6 => .ok (l, hallStep P c)
  | .S7snap => .ok ({ l with m := c.ctl.MODE, f := c.flt.Fault_code }, c)
  | .S7sel => .ok (l, selectSource P (behaviour l.m l.f) l.m (sensorless P l.m c))
  | .S7run =>
      (behave P fr (behaviour l.m l.f) l.m c).map
        (fun r => ({ l with enReq := r.2, st := c.al.Align_stage }, r.1))
  | .S7latch => .ok ({ l with f2 := c.flt.Fault_code }, c)
  | .S7fin => .ok (l, finishS7 P l c)
  | .S8 => .ok (l, c)

/-- The part after a part; none after S8. Events may fall between any two (log entry 14). -/
def nextPhase : Phase → Option Phase
  | .S1 => some .S2 | .S2 => some .S3a | .S3a => some .S3b | .S3b => some .S3c | .S3c => some .S3d
  | .S3d => some .S4 | .S4 => some .S5 | .S5 => some .S6 | .S6 => some .S7snap
  | .S7snap => some .S7sel | .S7sel => some .S7run | .S7run => some .S7latch
  | .S7latch => some .S7fin | .S7fin => some .S8 | .S8 => none

/-- Whether the instant before a part is a step boundary, where HOST accesses may fall (R64); the others
are the points of R285, inside a step. -/
def atBoundary : Phase → Bool
  | .S3b | .S3c | .S3d | .S7sel | .S7run | .S7latch | .S7fin => false
  | .S1 | .S2 | .S3a | .S4 | .S5 | .S6 | .S7snap | .S8 => true

/-- The eight steps of R260 as their parts, in order. -/
def cyclePhases : List Phase :=
  [.S1, .S2, .S3a, .S3b, .S3c, .S3d, .S4, .S5, .S6, .S7snap, .S7sel, .S7run, .S7latch, .S7fin, .S8]

/-- Performs parts in order, refused at the first that is (R260). -/
def runPhases (P : Params N) (fr : ClampSite → N) :
    List Phase → Locals → Context N → Except Refusal (Context N)
  | [], _, c => .ok c
  | ph :: phs, l, c =>
    match phaseStep P fr ph l c with
    | .ok (l', c') => runPhases P fr phs l' c'
    | .error r => .error r

/-- CYCLE (R260), run to completion with nothing between its parts (R65). -/
def cycle (P : Params N) (fr : ClampSite → N) (c : Context N) : Except Refusal (Context N) :=
  runPhases P fr cyclePhases Locals.fresh c

/-- CYCLE as a command (R260). -/
def execCycle (s : State) : Host.Outcome State Fault Refusal :=
  outcomeOf s (cycle hw (hw.freeClamp s.draws) s.ctx)

end Sys2Proof.Machine
end

