-- ==== Sys2Proof/Machine/Agents.lean ====
section
/-! DEFINITION. The agents around the operations (`00_scope.md` R5, `20_memory.md` R64 to R70,
`60_exceptions.md` R302, R303): what each input does to the state, and where inside a CYCLE in progress
it can land. A move ends either in the command that a write to CMD executes, which Machine/Step.lean
runs, or in an outcome. -/

namespace Sys2Proof.Machine

/-- What the next input comes to. -/
inductive Move where
  /-- A legal command to execute (R80), in the state that holds the word in CMD. -/
  | command (i : Instr) (s : State)
  | done (o : Host.Outcome State Fault Refusal)

/-- The agent CYC performs the next part of the cycle in progress (R5, R260); with none in progress it has
nothing to do. The draws of a cycle end with it (log entry 6). -/
def cycStep (s : State) : Host.Outcome State Fault Refusal :=
  match s.cyc with
  | none => .next s
  | some p =>
    match phaseStep hw (hw.freeClamp s.draws) p.next p.loc s.ctx with
    | .error r => .refused r
    | .ok (l, c) =>
      match nextPhase p.next with
      | some ph => .next { s with ctx := c, cyc := some ⟨ph, l⟩ }
      | none => .next { s with ctx := c, cyc := none, draws := s.draws + 1 }

/-- Whether a HOST access may fall at this instant (R64): no cycle in progress, or a step boundary. -/
def hostAdmitted (s : State) : Bool :=
  match s.cyc with
  | none => true
  | some p => atBoundary p.next

/-- A TICK (R66): it starts one CYCLE, and is refused while one is in progress (X14). -/
def tick (s : State) : Host.Outcome State Fault Refusal :=
  match s.cyc with
  | none => .next { s with cyc := some ⟨.S1, Locals.fresh⟩ }
  | some _ => .refused .tickDuringCycle

/-- RESET (R330, R331): every register takes its reset value and whatever was in progress is abandoned;
the inputs still to come stay (log entry 19), and the draws go on (log entry 6). -/
def resetEvent (s : State) : State :=
  { State.reset with inputs := s.inputs, draws := s.draws + 1 }

/-- A write to CMD (R63, R80): it stores the word and executes it. An illegal word "sets
STATUS.CMD_ILLEGAL and changes nothing else" (R85). Refused while a cycle is in progress (R65, X13). -/
def writeCmd (s : State) (v : Word) : Move :=
  match s.cyc with
  | some _ => .done (.refused .commandDuringCycle)
  | none =>
    match decode v with
    | .ok i => .command i { s with ctx.ctl.CMD := v }
    | .error _ => .done (.next { s with ctx.ctl.CMD := v, ctx.ctl.CMD_ILLEGAL := true })

/-- `RegWrite(i, v)` by HOST (R63). `held` is the state with the write still to come: inside a step it
waits for the boundary, since "a step is atomic with respect to HOST" (R64; log entry 1). -/
def hostWrite (held s : State) (i : RegIndex) (v : Word) : Move :=
  if i = cmdIndex then writeCmd s v
  else if hostAdmitted s then .done (.next { s with ctx := regStore s.ctx i v })
  else .done (cycStep held)

/-- `RegRead(i)` by HOST (R62), waiting as a write does. -/
def hostRead (held s : State) (i : RegIndex) : Move :=
  if hostAdmitted s then .done (.next { s with readData := regRead s.ctx i })
  else .done (cycStep held)

/-- SMP writes one sample register (R69): at any instant here, since S2 and S6 are each one part. -/
def smpAdc (c : Context F32) (k : BitVec 2) (code : BitVec 12) : Context F32 :=
  if k = 0 then { c with smp.ADC_RAW0 := code }
  else if k = 1 then { c with smp.ADC_RAW1 := code }
  else if k = 2 then { c with smp.ADC_RAW2 := code }
  else { c with smp.ADC_RAW3 := code }

/-- What one input does; `held` is the state with the input still to come, `s` the one without it. -/
def moveOf (held s : State) : Input → Move
  | .cyc => .done (cycStep s)
  | .settle => .done (if s.cyc.isSome then cycStep held else .next s)
  | .tick => .done (tick s)
  | .hwfault => .done (execHwFault s)
  | .reset => .done (.next (resetEvent s))
  | .hostWrite i v => hostWrite held s i v
  | .hostRead i => hostRead held s i
  | .busWrite addr bytes =>
      if busAligned addr bytes.length then hostWrite held s (busIndex addr) (wordOfBytes bytes)
      else .done (.refused .accessShape)
  | .busRead addr width =>
      if busAligned addr width then hostRead held s (busIndex addr)
      else .done (.refused .accessShape)
  | .smpAdc k code => .done (.next { s with ctx := smpAdc s.ctx k code })
  | .smpHall code => .done (.next { s with ctx.smp.HALL_IN := code })

/-- The next move. With no input left CYC completes the cycle in progress, and then "CORE does nothing
until an event or a HOST access arrives" (R331). -/
def move (s : State) : Move :=
  match s.inputs with
  | [] => .done (cycStep s)
  | x :: rest => moveOf s { s with inputs := rest } x

/-- After a command the free values of the next one are fresh (log entry 6). -/
def afterCommand : Host.Outcome State Fault Refusal → Host.Outcome State Fault Refusal
  | .next t => .next { t with draws := t.draws + 1 }
  | .fault r => .fault r
  | .refused r => .refused r

/-- `s` with the write of a command word to CMD as its next input and no cycle in progress, so that the
write is admitted (R65). -/
def withCommandWord (s : State) (w : Word) : State :=
  { s with cyc := none, inputs := .hostWrite cmdIndex w :: s.inputs }

end Sys2Proof.Machine
end

