-- ==== Sys2Proof/Machine/Dispatch.lean ====
section
/-! DEFINITION. The one match over the operations of CORE (`30_encoding.md` R84): one arm for each, a
direct call of its meaning. -/

namespace Sys2Proof.Machine

def exec (i : Instr) (s : State) : Host.Outcome State Fault Refusal :=
  match i with
  | .nop => Sys2Proof.Machine.execNop s
  | .initParams => Sys2Proof.Machine.execInitParams s
  | .initCc => Sys2Proof.Machine.execInitCc s
  | .initSc => Sys2Proof.Machine.execInitSc s
  | .initPll => Sys2Proof.Machine.execInitPll s
  | .initEemf => Sys2Proof.Machine.execInitEemf s
  | .initFoo => Sys2Proof.Machine.execInitFoo s
  | .updateGains => Sys2Proof.Machine.execUpdateGains s
  | .resetCtrl => Sys2Proof.Machine.execResetCtrl s
  | .clarke => Sys2Proof.Machine.execClarke s
  | .park => Sys2Proof.Machine.execPark s
  | .ipark => Sys2Proof.Machine.execIpark s
  | .iclarke => Sys2Proof.Machine.execIclarke s
  | .svmOffset => Sys2Proof.Machine.execSvmOffset s
  | .dtComp => Sys2Proof.Machine.execDtComp s
  | .duty => Sys2Proof.Machine.execDuty s
  | .wrap => Sys2Proof.Machine.execWrap s
  | .ccStep => Sys2Proof.Machine.execCcStep s
  | .scStep => Sys2Proof.Machine.execScStep s
  | .torqueCtrl => Sys2Proof.Machine.execTorqueCtrl s
  | .hallStep => Sys2Proof.Machine.execHallStep s
  | .fooStepA => Sys2Proof.Machine.execFooStepA s
  | .fooStepB => Sys2Proof.Machine.execFooStepB s
  | .eemfStep => Sys2Proof.Machine.execEemfStep s
  | .alignStep => Sys2Proof.Machine.execAlignStep s
  | .swFaultCheck => Sys2Proof.Machine.execSwFaultCheck s
  | .hwFault => Sys2Proof.Machine.execHwFault s
  | .faultClear => Sys2Proof.Machine.execFaultClear s
  | .cycle => Sys2Proof.Machine.execCycle s

end Sys2Proof.Machine
end

