-- ==== Sys2Proof/Machine/Step.lean ====
section
/-! DEFINITION. One step of the machine, and how a program is placed. CORE has no program counter and no
instruction fetch (`10_state.md` R24): what runs next is the next input, and an operation runs because
HOST writes its command word to CMD (`30_encoding.md` R80). -/

namespace Sys2Proof.Machine

/-- One step: the next move, and the command it executes if it is a write of one to CMD. -/
def step (s : State) : Host.Outcome State Fault Refusal :=
  match move s with
  | .command i s' => afterCommand (exec i s')
  | .done o => o

/-- `s` with the write of this command word to CMD as the next thing that happens, no cycle being in
progress (log entry 1). -/
def State.withFetchWord (s : State) (nbits w : Nat) : State := withCommandWord s (tableWord nbits w)

end Sys2Proof.Machine
end

