-- ==== Sys2Proof/Machine/HostProgram.lean ====
section
/-! DEFINITION. Host programs (`30_encoding.md` R89, R90): the statements and the pseudo-instructions, as
the inputs they stand for. There is no text to parse: a statement is a term, a register its name, a
number its encoding. -/

namespace Sys2Proof.Machine

/-- The statements of R89. A TICK count is that of `TICK <int>`, 1 for `TICK` alone. -/
inductive Stmt where
  | WR (r : Reg) (v : Word)
  | WRI (i : RegIndex) (v : Word)
  | RD (r : Reg)
  | RDI (i : RegIndex)
  | CMD (i : Instr)
  | TICK (n : Nat)
  | HWFAULT
  | SAMPLE (a b c vdc : BitVec 12) (hall : BitVec 3)
  deriving DecidableEq, Repr

/-- The index of a register as 9 bits. -/
def Reg.at (r : Reg) : RegIndex := BitVec.ofNat 9 r.index

/-- The inputs of a statement (R89). DESIGN CHOICE (log entry 20): every TICK is followed by `settle`, so
that whatever statement comes next (a WR, a RD, a HWFAULT, a SAMPLE, a CMD) acts after the CYCLE has
completed. R89 asks that of the next TICK of `TICK <int>` alone ("each after the previous CYCLE has
completed") and leaves open when any other statement after a TICK acts; a schedule in which it acts inside
the CYCLE is a list of inputs, not a host program. -/
def Stmt.inputs : Stmt → List Input
  | .WR r v => [.hostWrite r.at v]
  | .WRI i v => [.hostWrite i v]
  | .RD r => [.hostRead r.at]
  | .RDI i => [.hostRead i]
  | .CMD i => [.hostWrite cmdIndex (encode i)]
  | .TICK n => (List.replicate n [Input.tick, Input.settle]).flatten
  | .HWFAULT => [.hwfault]
  | .SAMPLE a b c v h => [.smpAdc 0 a, .smpAdc 1 b, .smpAdc 2 c, .smpAdc 3 v, .smpHall h]

/-- The argument registers in order. -/
def argRegs : List Reg := [.A0, .A1, .A2, .A3, .A4, .A5, .A6, .A7, .A8, .A9, .A10, .A11]

/-- How many operands the pseudo-instruction of an operation takes (R90); none has no entry there. -/
def pseudoArity : Instr → Option Nat
  | .initParams => some 12
  | .ccStep | .park | .ipark => some 4
  | .clarke | .svmOffset => some 3
  | .initSc | .iclarke | .duty | .scStep | .eemfStep => some 2
  | .initCc | .initPll | .initEemf | .initFoo | .dtComp | .wrap | .torqueCtrl | .fooStepA
  | .fooStepB => some 1
  | .nop | .updateGains | .resetCtrl | .hallStep | .alignStep | .swFaultCheck | .hwFault
  | .faultClear | .cycle => none

/-- The expansion of a pseudo-instruction (R90): "writes of the A registers in order, then the command". -/
def pseudo (i : Instr) (args : List F32) : Option (List Stmt) :=
  if pseudoArity i = some args.length then
    some ((argRegs.zip args).map (fun p => .WR p.1 p.2) ++ [.CMD i])
  else none

/-- `SETMODE f1|f2|...` (R90): "the OR of the named bits". -/
def setMode (fs : List ModeFlag) : Stmt :=
  .WR .MODE (fs.foldl (fun m f => m ||| f.mask) 0)

/-- A host program as the inputs it stands for. -/
def programInputs (p : List Stmt) : List Input := p.flatMap Stmt.inputs

end Sys2Proof.Machine
end

