-- ==== Sys2Proof/Safety.lean ====
section
/-! DEFINITION. What counts as a sound state and a safe output, in the terms the claims use. -/

namespace Sys2Proof

open Sys2Proof.Machine

/-- `10_state.md` R26: MODE.FAULT is the "mirror of Fault_code != none". -/
def FaultMirrored {N : Type} (c : Context N) : Prop :=
  flag c.ctl.MODE .FAULT = (c.flt.Fault_code != 0)

/-- `10_state.md` R43: "0 none, 1 hardware, 2 software; 3 never occurs". -/
def FaultCodeLegal {N : Type} (c : Context N) : Prop := c.flt.Fault_code ≠ 3

/-- `49_mode_dispatcher.md` R263, `60_exceptions.md` R309 (b): CAL_CNT counts to 10,000 and is then
frozen, and CAL_DONE says that it has. -/
def CalibrationCounted {N : Type} (c : Context N) : Prop :=
  (c.cal.CAL_DONE = true ∧ c.cal.CAL_CNT = 10000#32) ∨
    (c.cal.CAL_DONE = false ∧ c.cal.CAL_CNT < 10000#32)

/-- `47_alignment.md` R229: "a call never ends with Align_stage = 3". -/
def AlignStageLegal {N : Type} (c : Context N) : Prop := c.al.Align_stage ≠ 3

/-- What every step keeps of the register file. -/
def RegsSound {N : Type} (c : Context N) : Prop :=
  FaultMirrored c ∧ FaultCodeLegal c ∧ CalibrationCounted c ∧ AlignStageLegal c

/-- What every step keeps. -/
def Sound (s : State) : Prop := RegsSound s.ctx

/-- "fault latched implies output disabled", the safety claim of `70_reset_and_hazards.md` R336. -/
def OutputSafe {N : Type} (c : Context N) : Prop := c.flt.Fault_code ≠ 0 → c.out.PWM_EN = false

/-- `clamp(v, lo, hi) = x` where R11 defines it: `lo <= hi` and `v` comparable. Elsewhere `x` is a draw
(X3) and this says nothing of it. -/
def ClampsTo {N : Type} (P : Params N) (v lo hi x : N) : Prop :=
  P.le lo hi = true → P.eq v v = true → x = if P.lt v lo then lo else if P.lt hi v then hi else v

/-- The registers of the current controller and the modulator that CC_STEP writes (R140). -/
def ccWrites : List Reg :=
  Reg.ccRegs ++ Reg.outRegs ++
    [.Idss, .Iqss, .Vdss_ref, .Vqss_ref, .Vas_ref, .Vbs_ref, .Vcs_ref, .Vsn, .Van_ref, .Vbn_ref,
     .Vcn_ref]

/-- The gains of UPDATE_GAINS: the ten that the pseudocode of R108 names (log entry 11). -/
def gainWrites : List Reg :=
  [.Kpd, .Kid, .Kpq, .Kiq, .Kp_sc, .Ki_sc, .Kp_pll, .Ki_pll, .Kp_hall, .Ki_hall]

/-- The registers fault entry writes (R243). -/
def faultWrites : List Reg := .MODE :: (Reg.fltRegs ++ Reg.outRegs)

/-- The registers an operation may write: the "written by" columns of `10_state.md`, read the other way
(R22). -/
def writesOf : Instr → List Reg
  | .nop => []
  | .initParams => Reg.parRegs
  | .initCc => [.Wcc, .Kpd, .Kid, .Kpq, .Kiq, .Duty_a, .Duty_b, .Duty_c] ++ Reg.ccRegs ++ Reg.mdRegs
  | .initSc => [.Wsc, .Kp_sc, .Ki_sc]
  | .initPll => [.Wpll, .Kp_pll, .Ki_pll, .Kp_hall, .Ki_hall]
  | .initEemf => [.Wc_eemf, .Kp_eemf, .Ki_eemf]
  | .initFoo => [.Beta_foo, .K1, .K2, .K3]
  | .updateGains => gainWrites
  | .resetCtrl =>
      Reg.ccRegs ++ Reg.mdRegs ++ Reg.scRegs ++ [.Theta_ol, .Duty_test_a, .Duty_test_b, .Duty_test_c]
  | .clarke => [.R0, .R1]
  | .park => [.R0, .R1]
  | .ipark => [.R0, .R1]
  | .iclarke => [.R0, .R1, .R2]
  | .svmOffset => [.R0, .R1, .R2, .R3]
  | .dtComp => [.R0]
  | .duty => [.R0]
  | .wrap => [.R0]
  | .ccStep => ccWrites
  | .scStep => Reg.scRegs
  | .torqueCtrl => [.Te_ref]
  | .hallStep => Reg.hallRegs
  | .fooStepA => Reg.fooRegs
  | .fooStepB => Reg.fooRegs
  | .eemfStep => [.Kp_eemf, .Ki_eemf] ++ Reg.eemfRegs
  | .alignStep => ccWrites ++ Reg.slRegs ++ Reg.alRegs ++ [.MODE]
  | .swFaultCheck => faultWrites
  | .hwFault => faultWrites
  | .faultClear => [.Fault_code, .MODE]
  | .cycle =>
      [.CYCLE_CNT, .Ia, .Ib, .Ic, .Vdc, .Vdc_lpf, .Kp_eemf, .Ki_eemf] ++ gainWrites ++ faultWrites ++
        ccWrites ++ Reg.mdRegs ++ Reg.calRegs ++ Reg.slRegs ++ Reg.scRegs ++ Reg.hallRegs ++
        Reg.fooRegs ++ Reg.eemfRegs ++ Reg.alRegs ++
        [.Theta_ol, .Duty_test_a, .Duty_test_b, .Duty_test_c]

end Sys2Proof
end

