-- ==== Sys2Proof/Reference.lean ====
section
/-! DEFINITION. The reference instance of `NUM` (`00_scope.md` R7): "the real numbers with the
mathematical functions". The machine runs on binary32 and imports nothing of this file; the rules whose
words are about the reals are stated over it. A division by zero has no value there and the spec refuses
the operation (R110, X1, X2): a statement about the reals assumes its divisors are not 0 (log entry 13). -/

namespace Sys2Proof.Reference

/-- The real numbers as a number format. `atan2 y x` is "the angle in (−π, π] of the point (x, y)". -/
noncomputable def format : NumFormat ℝ :=
  { ofDecimal := fun n d => (n : ℝ) / (d : ℝ)
    pi := Real.pi, invSqrt3 := 1 / Real.sqrt 3, sqrt3 := Real.sqrt 3
    add := fun a b => a + b, sub := fun a b => a - b, neg := fun a => -a
    mul := fun a b => a * b, div := fun a b => a / b
    lt := fun a b => decide (a < b), le := fun a b => decide (a ≤ b), eq := fun a b => decide (a = b)
    abs := fun a => |a|, max := fun a b => max a b, min := fun a b => min a b
    ofInt := fun n => (n : ℝ), ceil := fun a => (⌈a⌉ : ℝ)
    sin := Real.sin, cos := Real.cos, atan := Real.arctan
    atan2 := fun y x => Complex.arg ⟨x, y⟩ }

/-- The open parameters of R6 over the reals. -/
structure Open where
  Ts : ℝ
  resComp : Axis → ℝ → ℝ → ℝ → ℝ
  hallTestVec : BitVec 3 → ℝ × ℝ × ℝ
  freeClamp : Nat → ClampSite → ℝ

/-- CORE's parameters over the reals. -/
noncomputable def params (o : Open) : Params ℝ :=
  { toNumFormat := format, Ts := o.Ts, resComp := o.resComp, hallTestVec := o.hallTestVec
    hallGainSel := .secondary, freeClamp := o.freeClamp }

end Sys2Proof.Reference
end

