-- ==== Sys2Proof/Certificates/Slice0/Obligations.lean ====
section
/-! DEFINITION. The statements about CORE for the provers. Arithmetic is written with the operators of
`hw`, the number format of this hardware, in the order the rules write it. `c` is the register file an
operation finds; a register file written out in a conclusion says also what the operation leaves
unchanged. -/

open Sys2Proof
open Sys2Proof.Machine

/-! ## Encoding -/

/-- `30_encoding.md` R84: command words of every code group, written out from the table's codes. -/
def Obligations.CommandWordsDecode : Prop :=
  decode 0x00000000 = .ok .nop ∧ decode 0x01000000 = .ok .initParams ∧
  decode 0x08000000 = .ok .resetCtrl ∧ decode 0x10000000 = .ok .clarke ∧
  decode 0x17000000 = .ok .wrap ∧ decode 0x20000000 = .ok .ccStep ∧
  decode 0x24000000 = .ok .fooStepA ∧ decode 0x24010000 = .ok .fooStepB ∧
  decode 0x32000000 = .ok .faultClear ∧ decode 0x40000000 = .ok .cycle ∧
  decode 0x24020000 = .error .variantNotAdmitted ∧ decode 0x10010000 = .error .variantNotAdmitted ∧
  decode 0x09000000 = .error .unknownOpc ∧ decode 0x40000001 = .error .reservedBits

/-- `30_encoding.md` R81, R82, R88: of all 32-bit words the decoder accepts exactly the command words of
the 29 operations, each as its own operation. -/
def Obligations.DecodeAcceptsExactlyEncodings : Prop :=
  ∀ (w : Word) (i : Instr), decode w = .ok i ↔ w = encode i

/-- `30_encoding.md` R85, its two sentences: which words are illegal, the codes of R84 written out; and
that an illegal command sets STATUS.CMD_ILLEGAL and changes nothing else (CMD holds the word written,
`20_memory.md` R63). -/
def Obligations.IllegalWordsSetStatusOnly : Prop :=
  (∀ w : Word, (∃ e, decode w = .error e) ↔
    ¬ ((fieldsOf w).opc ∈ [0x00#8, 0x01#8, 0x02#8, 0x03#8, 0x04#8, 0x05#8, 0x06#8, 0x07#8, 0x08#8,
          0x10#8, 0x11#8, 0x12#8, 0x13#8, 0x14#8, 0x15#8, 0x16#8, 0x17#8,
          0x20#8, 0x21#8, 0x22#8, 0x23#8, 0x24#8, 0x25#8, 0x26#8, 0x30#8, 0x31#8, 0x32#8, 0x40#8])
      ∨ ((fieldsOf w).opc ≠ 0x24#8 ∧ (fieldsOf w).var ≠ 0#8)
      ∨ ((fieldsOf w).opc = 0x24#8 ∧ 2 ≤ (fieldsOf w).var.toNat)
      ∨ (fieldsOf w).rsv ≠ 0#16) ∧
  (∀ (s : State) (w : Word) (rest : List Input) (e : Illegal),
    s.inputs = .hostWrite cmdIndex w :: rest → s.cyc = none → decode w = .error e →
    step s = .next { s with inputs := rest, ctx.ctl.CMD := w, ctx.ctl.CMD_ILLEGAL := true })

/-! ## Steps, host accesses, agents -/

/-- `30_encoding.md` R80, `20_memory.md` R63: a write of a legal word to CMD stores it and executes its
operation: the step is exec of the operation in that state. After a command the model's draw counter
advances (log entry 6). -/
def Obligations.StepRunsDecodedCommand : Prop :=
  ∀ (s : State) (w : Word) (rest : List Input) (i : Instr),
    s.inputs = .hostWrite cmdIndex w :: rest → s.cyc = none → decode w = .ok i →
    (∀ t, exec i { s with inputs := rest, ctx.ctl.CMD := w } = .next t →
      step s = .next { t with draws := t.draws + 1 }) ∧
    (∀ r, exec i { s with inputs := rest, ctx.ctl.CMD := w } = .refused r → step s = .refused r)

/-- `70_reset_and_hazards.md` R331: "CORE does nothing until an event or a HOST access arrives". -/
def Obligations.IdleCoreDoesNothing : Prop :=
  ∀ s : State, s.inputs = [] → s.cyc = none → step s = .next s

/-- `20_memory.md` R62: a read returns the word of the register at the index, or 0 where none exists,
and changes no register. -/
def Obligations.HostReadHasNoSideEffect : Prop :=
  ∀ (s : State) (i : RegIndex) (rest : List Input), s.inputs = .hostRead i :: rest →
    hostAdmitted s = true →
    ∃ w, step s = .next { s with inputs := rest, readData := w } ∧
      (∀ r : Reg, r.index = i.toNat → w = s.ctx.read r) ∧
      ((∀ r : Reg, r.index ≠ i.toNat) → w = 0)

/-- `20_memory.md` R67: a HOST write to a register of class RO, or to an index with no register, changes
nothing. -/
def Obligations.ReadOnlyWritesChangeNothing : Prop :=
  ∀ (s : State) (i : RegIndex) (v : Word) (rest : List Input), s.inputs = .hostWrite i v :: rest →
    hostAdmitted s = true → (∀ r : Reg, r.index = i.toNat → r.hostClass = .RO) →
    step s = .next { s with inputs := rest }

/-- `20_memory.md` R63 for every register but CMD: what a HOST write makes the register at the index
read as, and that every other register reads as before. An integer register keeps the low bits of its
width, STATUS clears the bits written 1, MODE keeps bit 1. -/
def Obligations.HostWriteStoresByClass : Prop :=
  ∀ (s : State) (r : Reg) (v : Word) (rest : List Input), s.inputs = .hostWrite r.at v :: rest →
    hostAdmitted s = true → r ≠ .CMD →
    ∃ t, step s = .next t ∧ t.cyc = s.cyc ∧ t.inputs = rest ∧
      (∀ q : Reg, q ≠ r → t.ctx.read q = s.ctx.read q) ∧
      t.ctx.read r =
        (match r with
         | .MODE => (v &&& ~~~2#32) ||| (s.ctx.read .MODE &&& 2#32)
         | .STATUS => s.ctx.read .STATUS &&& ~~~v
         | .ADC_RAW0 => v &&& 0xFFF#32
         | .ADC_RAW1 => v &&& 0xFFF#32
         | .ADC_RAW2 => v &&& 0xFFF#32
         | .ADC_RAW3 => v &&& 0xFFF#32
         | .HALL_IN => v &&& 7#32
         | .Hall_test_sel => v &&& 7#32
         | r => if r.hostClass = .RO then s.ctx.read r else v)

/-- `20_memory.md` R65, R66: a write to CMD and a TICK are refused while a CYCLE is in progress. -/
def Obligations.CommandAndTickRefusedDuringCycle : Prop :=
  ∀ (s : State) (p : InFlight) (rest : List Input), s.cyc = some p →
    (∀ v, s.inputs = .hostWrite cmdIndex v :: rest → step s = .refused .commandDuringCycle) ∧
    (s.inputs = .tick :: rest → step s = .refused .tickDuringCycle)

/-- `20_memory.md` R64 says that no HOST access falls inside a step ("a step is atomic with respect to
HOST") and no more. That an access whose turn comes there waits while CYC takes its next part is the
model's DESIGN CHOICE, log entry 1, and this statement says that choice. -/
def Obligations.HostWaitsInsideStep : Prop :=
  ∀ (s : State) (i : RegIndex) (v : Word) (rest : List Input), hostAdmitted s = false →
    (s.inputs = .hostRead i :: rest ∨ (s.inputs = .hostWrite i v :: rest ∧ i ≠ cmdIndex)) →
    step s = step { s with inputs := .cyc :: s.inputs }

/-- `20_memory.md` R61, R76: on a byte-addressed presentation an aligned four-byte access, CMD's too, is
that of the register at a quarter of the address, bytes little-endian; a read or a write of any other
shape is refused (X12). Inside a step an access waits as a word access does (DESIGN CHOICE, log
entry 1). -/
def Obligations.BusAccessIsTheWordAccess : Prop :=
  ∀ (s : State) (rest : List Input),
    (∀ (i : RegIndex) (b0 b1 b2 b3 : Byte),
      s.inputs = .busWrite (BitVec.ofNat 11 (4 * i.toNat)) [b0, b1, b2, b3] :: rest →
      (hostAdmitted s = true ∨ i = cmdIndex →
        step s = step { s with inputs := .hostWrite i (b3 ++ b2 ++ b1 ++ b0) :: rest }) ∧
      (hostAdmitted s = false → i ≠ cmdIndex → step s = step { s with inputs := .cyc :: s.inputs })) ∧
    (∀ i : RegIndex, s.inputs = .busRead (BitVec.ofNat 11 (4 * i.toNat)) 4 :: rest →
      (hostAdmitted s = true → step s = step { s with inputs := .hostRead i :: rest }) ∧
      (hostAdmitted s = false → step s = step { s with inputs := .cyc :: s.inputs })) ∧
    (∀ (a : BitVec 11) (n : Nat), s.inputs = .busRead a n :: rest → (a.toNat % 4 ≠ 0 ∨ n ≠ 4) →
      step s = .refused .accessShape) ∧
    (∀ (a : BitVec 11) (bs : List Byte), s.inputs = .busWrite a bs :: rest →
      (a.toNat % 4 ≠ 0 ∨ bs.length ≠ 4) → step s = .refused .accessShape)

/-! ## Reset -/

/-- `10_state.md` R46: "After reset every register reads 0, except ADC_GAIN[0..3] = 1, ACC_MAX = 3000,
T_ALIGN1 = 4, T_ALIGN2 = 5"; the four numbers as binary32 patterns. -/
def Obligations.ResetValuesOfEveryRegister : Prop :=
  ∀ r : Reg, State.reset.ctx.read r =
    (match r with
     | .ADC_GAIN0 => 0x3F800000#32
     | .ADC_GAIN1 => 0x3F800000#32
     | .ADC_GAIN2 => 0x3F800000#32
     | .ADC_GAIN3 => 0x3F800000#32
     | .ACC_MAX => 0x453B8000#32
     | .T_ALIGN1 => 0x40800000#32
     | .T_ALIGN2 => 0x40A00000#32
     | _ => 0#32)

/-- `70_reset_and_hazards.md` R330, R331: RESET at any instant, a CYCLE in progress or not, gives every
register its reset value and no CYCLE is in progress. The last clause, that the inputs after RESET are
still to come, is the model's reading, log entry 19 (DEDUCED). -/
def Obligations.ResetAbandonsWhatIsInProgress : Prop :=
  ∀ (s : State) (rest : List Input), s.inputs = .reset :: rest →
    ∃ t, step s = .next t ∧ t.ctx = State.reset.ctx ∧ t.cyc = none ∧ t.inputs = rest

/-! ## Parameter and gain model -/

/-- `40_params_gains.md` R101: "Effect: none; no register changes." -/
def Obligations.NopChangesNothing : Prop := ∀ s : State, exec .nop s = .next s

/-- `40_params_gains.md` R102. -/
def Obligations.InitParamsStoresAndDerives : Prop :=
  ∀ s : State, let a := s.ctx.a
    let kt := hw.mul (hw.mul (hw.ofDecimal 3 2) a.A4) a.A3
    exec .initParams s = .next { s with ctx.par :=
      { Rs := a.A0, Ld := a.A1, Lq := a.A2, Lamf := a.A3, PP := a.A4, Jm := a.A5, Bm := a.A6
        I_align := a.A7, I_rated := a.A8, I_limit := a.A9, Wrpm_rated := a.A10, Te_rated := a.A11
        Kt := kt, INV_Kt := hw.div (hw.ofDecimal 1 1) kt } }

/-- `40_params_gains.md` R103: the bandwidth, the four gains, and every register at 0x080 to 0x08E, 0x090
to 0x09A, 0x09D and the three duties 0; PWM_EN and every other register as before. -/
def Obligations.InitCcDerivesAndZeroes : Prop :=
  ∀ s : State, let c := s.ctx
    ∃ t, exec .initCc s = .next t ∧ t = { s with ctx := t.ctx } ∧
      t.ctx = { c with bw := t.ctx.bw, gain := t.ctx.gain, cc := t.ctx.cc, md := t.ctx.md, out := t.ctx.out } ∧
      t.ctx.bw = { c.bw with Wcc := c.a.A0 } ∧
      t.ctx.gain = { c.gain with
        Kpd := hw.mul c.a.A0 c.par.Ld, Kid := hw.mul c.a.A0 c.par.Rs
        Kpq := hw.mul c.a.A0 c.par.Lq, Kiq := hw.mul c.a.A0 c.par.Rs } ∧
      (∀ r ∈ Reg.ccRegs ++ Reg.mdRegs ++ [.Duty_a, .Duty_b, .Duty_c], t.ctx.read r = 0#32) ∧
      t.ctx.out.PWM_EN = c.out.PWM_EN

/-- `40_params_gains.md` R104. -/
def Obligations.InitScStoresGains : Prop :=
  ∀ s : State, let c := s.ctx
    exec .initSc s = .next { s with ctx := { c with
      bw.Wsc := c.a.A0
      gain.Kp_sc := hw.mul c.par.Jm c.a.A0
      gain.Ki_sc := hw.mul (hw.mul (hw.mul c.par.Jm c.a.A0) c.a.A0) (hw.ofDecimal 1 4) } }

/-- `40_params_gains.md` R105. -/
def Obligations.InitPllStoresBothPairs : Prop :=
  ∀ s : State, let c := s.ctx
    let wh := hw.mul (hw.mul (hw.ofDecimal 2 1) hw.pi) (hw.ofDecimal 10 1)
    exec .initPll s = .next { s with ctx := { c with
      bw.Wpll := c.a.A0
      gain.Kp_pll := hw.mul (hw.mul (hw.ofDecimal 2 1) (hw.ofDecimal 707 1000)) c.a.A0
      gain.Ki_pll := hw.mul c.a.A0 c.a.A0
      gain.Kp_hall := hw.mul (hw.mul (hw.ofDecimal 2 1) (hw.ofDecimal 707 1000)) wh
      gain.Ki_hall := hw.mul wh wh } }

/-- `40_params_gains.md` R106. -/
def Obligations.InitEemfStoresOnePair : Prop :=
  ∀ s : State, let c := s.ctx
    exec .initEemf s = .next { s with ctx := { c with
      bw.Wc_eemf := c.a.A0
      gain.Kp_eemf := hw.mul c.par.Ld c.a.A0
      gain.Ki_eemf := hw.mul c.par.Rs c.a.A0 } }

/-- `40_params_gains.md` R107. -/
def Obligations.InitFooStoresButterworthGains : Prop :=
  ∀ s : State, let c := s.ctx
    let wso := hw.neg c.a.A0
    let l1 := hw.sub (hw.mul (hw.ofDecimal (-2) 1) wso) (hw.div c.par.Bm c.par.Jm)
    let l2 := hw.sub (hw.mul (hw.ofDecimal 2 1) (hw.mul wso wso))
      (hw.div (hw.mul l1 c.par.Bm) c.par.Jm)
    let l3 := hw.mul (hw.mul (hw.mul wso wso) wso) c.par.Jm
    exec .initFoo s = .next { s with ctx := { c with
      bw.Beta_foo := c.a.A0
      gain.K1 := l1, gain.K2 := hw.mul c.par.Jm l2, gain.K3 := hw.neg l3 } }

/-- `40_params_gains.md` R108, the gains its pseudocode names (log entry 11), and that a second execution
writes the same values. -/
def Obligations.UpdateGainsRecomputesAndIsIdempotent : Prop :=
  ∀ s : State, let c := s.ctx
    let wh := hw.mul (hw.mul (hw.ofDecimal 2 1) hw.pi) (hw.ofDecimal 10 1)
    ∃ t, exec .updateGains s = .next t ∧ exec .updateGains t = .next t ∧
      t = { s with ctx := { c with
        gain.Kpd := hw.mul c.bw.Wcc c.par.Ld, gain.Kid := hw.mul c.bw.Wcc c.par.Rs
        gain.Kpq := hw.mul c.bw.Wcc c.par.Lq, gain.Kiq := hw.mul c.bw.Wcc c.par.Rs
        gain.Kp_sc := hw.mul c.par.Jm c.bw.Wsc
        gain.Ki_sc := hw.mul (hw.mul (hw.mul c.par.Jm c.bw.Wsc) c.bw.Wsc) (hw.ofDecimal 1 4)
        gain.Kp_pll := hw.mul (hw.mul (hw.ofDecimal 2 1) (hw.ofDecimal 707 1000)) c.bw.Wpll
        gain.Ki_pll := hw.mul c.bw.Wpll c.bw.Wpll
        gain.Kp_hall := hw.mul (hw.mul (hw.ofDecimal 2 1) (hw.ofDecimal 707 1000)) wh
        gain.Ki_hall := hw.mul wh wh } }

/-- `40_params_gains.md` R109: every register at 0x080 to 0x08E, 0x090 to 0x09A, 0x09D, 0x0A0 to 0x0A6,
Theta_ol and the three test duties read 0, and every other register reads as before. -/
def Obligations.ResetCtrlZeroesControllers : Prop :=
  ∀ s : State, ∃ t, exec .resetCtrl s = .next t ∧ t = { s with ctx := t.ctx } ∧
    ∀ r : Reg,
      let i := r.index
      t.ctx.read r =
        if (0x080 ≤ i ∧ i ≤ 0x08E) ∨ (0x090 ≤ i ∧ i ≤ 0x09A) ∨ i = 0x09D ∨ (0x0A0 ≤ i ∧ i ≤ 0x0A6) ∨
            r = .Theta_ol ∨ r = .Duty_test_a ∨ r = .Duty_test_b ∨ r = .Duty_test_c
        then 0#32 else s.ctx.read r

/-! ## Transforms and modulation -/

/-- `41_transforms_modulation.md` R121 to R124: CLARKE, PARK, IPARK and ICLARKE. -/
def Obligations.TransformCommandResults : Prop :=
  ∀ s : State, let c := s.ctx
    let a := c.a
    exec .clarke s = .next { s with ctx := { c with
      r.R0 := hw.div (hw.sub (hw.sub (hw.mul (hw.ofDecimal 2 1) a.A0) a.A1) a.A2) (hw.ofDecimal 3 1)
      r.R1 := hw.mul (hw.sub a.A1 a.A2) hw.invSqrt3 } } ∧
    exec .park s = .next { s with ctx := { c with
      r.R0 := hw.add (hw.mul a.A0 a.A3) (hw.mul a.A1 a.A2)
      r.R1 := hw.sub (hw.mul a.A1 a.A3) (hw.mul a.A0 a.A2) } } ∧
    exec .ipark s = .next { s with ctx := { c with
      r.R0 := hw.sub (hw.mul a.A0 a.A3) (hw.mul a.A1 a.A2)
      r.R1 := hw.add (hw.mul a.A0 a.A2) (hw.mul a.A1 a.A3) } } ∧
    exec .iclarke s = .next { s with ctx := { c with
      r.R0 := a.A0
      r.R1 := hw.add (hw.mul (hw.ofDecimal (-1) 2) a.A0)
        (hw.mul (hw.mul (hw.ofDecimal 1 2) hw.sqrt3) a.A1)
      r.R2 := hw.sub (hw.mul (hw.ofDecimal (-1) 2) a.A0)
        (hw.mul (hw.mul (hw.ofDecimal 1 2) hw.sqrt3) a.A1) } }

/-- `41_transforms_modulation.md` R125, R126: SVM_OFFSET and DT_COMP. -/
def Obligations.OffsetAndCompensationResults : Prop :=
  ∀ s : State, let c := s.ctx
    let a := c.a
    let off := hw.mul (hw.ofDecimal (-1) 2)
      (hw.add (hw.max (hw.max a.A0 a.A1) a.A2) (hw.min (hw.min a.A0 a.A1) a.A2))
    exec .svmOffset s = .next { s with ctx := { c with
      r.R0 := off, r.R1 := hw.add a.A0 off, r.R2 := hw.add a.A1 off, r.R3 := hw.add a.A2 off } } ∧
    exec .dtComp s = .next { s with ctx := { c with
      r.R0 := hw.mul c.tun.DT_A (hw.atan (hw.mul c.tun.DT_B a.A0)) } }

/-- `41_transforms_modulation.md` R127: DUTY writes one result; where the quotient is a number it is
`clamp((V / Vdc) + 0.5, 0, 1)`, and elsewhere nothing is said of it (X3). -/
def Obligations.DutyResult : Prop :=
  ∀ s : State, ∃ d, exec .duty s = .next { s with ctx := { s.ctx with r.R0 := d } } ∧
    ClampsTo hw (hw.add (hw.div s.ctx.a.A0 s.ctx.a.A1) (hw.ofDecimal 1 2)) (hw.ofDecimal 0 1)
      (hw.ofDecimal 1 1) d

/-- `41_transforms_modulation.md` R134: WRAP's result on this hardware; and in the real instance the
wrap is the unique `x − 2πk`, `k` an integer, that lies in (−π, π]. -/
def Obligations.WrapResultAndRealRange : Prop :=
  (∀ s : State, let x := s.ctx.a.A0
    let tau := hw.mul (hw.ofDecimal 2 1) hw.pi
    exec .wrap s = .next { s with ctx := { s.ctx with
      r.R0 := hw.sub x (hw.mul (hw.ceil (hw.div (hw.sub x hw.pi) tau)) tau) } }) ∧
  (∀ (o : Reference.Open) (x : ℝ),
    -Real.pi < wrap (Reference.params o) x ∧ wrap (Reference.params o) x ≤ Real.pi ∧
    (∃ k : ℤ, wrap (Reference.params o) x = x - 2 * Real.pi * k) ∧
    ∀ k : ℤ, -Real.pi < x - 2 * Real.pi * k → x - 2 * Real.pi * k ≤ Real.pi →
      x - 2 * Real.pi * k = wrap (Reference.params o) x)

/-- `41_transforms_modulation.md` R123, R124 in the real instance: IPARK undoes PARK when s² + c² = 1,
ICLARKE's three results sum to zero, CLARKE undoes ICLARKE, and the largest and smallest voltages after
the offset of R125 are equal and opposite. -/
def Obligations.TransformInversesInTheReals : Prop :=
  ∀ o : Reference.Open, let P := Reference.params o
    (∀ al be s c : ℝ, s ^ 2 + c ^ 2 = 1 →
      ipark P (park P al be s c).1 (park P al be s c).2 s c = (al, be)) ∧
    (∀ al be : ℝ, (iclarke P al be).1 + (iclarke P al be).2.1 + (iclarke P al be).2.2 = 0) ∧
    (∀ al be : ℝ,
      clarke P (iclarke P al be).1 (iclarke P al be).2.1 (iclarke P al be).2.2 = (al, be)) ∧
    (∀ a b c : ℝ, let off := svmOffset P a b c
      max3 P (a + off) (b + off) (c + off) = -(min3 P (a + off) (b + off) (c + off)))

/-! ## Current controller -/

/-- `42_current_controller.md` R140 to R149: with CC_LPF = 0 CC_STEP completes, and the registers it
leaves are those of its nine stages; every other register is as before. Where an undefined clamp (X3)
leaves a value open the equations that follow from it hold of that value. -/
def Obligations.CcStepCompletesByItsStages : Prop :=
  ∀ s : State, hw.eq s.ctx.tun.CC_LPF (hw.ofDecimal 0 1) = true →
    let c := s.ctx
    let theta := c.a.A2
    let w := c.a.A3
    let vlim := hw.mul c.meas.Vdc hw.invSqrt3
    let adv := hw.add theta (hw.mul (hw.mul (hw.ofDecimal 3 2) hw.Ts) w)
    let half := hw.ofDecimal 1 2
    ∃ t, exec .ccStep s = .next t ∧ t = { s with ctx := t.ctx } ∧
      t.ctx = { c with cc := t.ctx.cc, md := t.ctx.md, out := t.ctx.out } ∧
      t.ctx.md.Iqsr_ref_unsat = c.md.Iqsr_ref_unsat ∧
      -- R141
      t.ctx.cc.Idsr_ref = c.a.A0 ∧ t.ctx.cc.Iqsr_ref = c.a.A1 ∧
      (t.ctx.md.Idss, t.ctx.md.Iqss) = clarke hw c.meas.Ia c.meas.Ib c.meas.Ic ∧
      (t.ctx.cc.Idsr, t.ctx.cc.Iqsr) =
        park hw t.ctx.md.Idss t.ctx.md.Iqss (hw.sin theta) (hw.cos theta) ∧
      -- R142
      t.ctx.cc.Idsr_err = hw.sub t.ctx.cc.Idsr_ref t.ctx.cc.Idsr ∧
      t.ctx.cc.Vdsr_integ = hw.add c.cc.Vdsr_integ (hw.mul (hw.mul c.gain.Kid
        (hw.sub t.ctx.cc.Idsr_err (hw.mul c.tun.Kad c.cc.Vdsr_aw))) hw.Ts) ∧
      t.ctx.cc.Iqsr_err = hw.sub t.ctx.cc.Iqsr_ref t.ctx.cc.Iqsr ∧
      t.ctx.cc.Vqsr_integ = hw.add c.cc.Vqsr_integ (hw.mul (hw.mul c.gain.Kiq
        (hw.sub t.ctx.cc.Iqsr_err (hw.mul c.tun.Kaq c.cc.Vqsr_aw))) hw.Ts) ∧
      -- R143, R144, R145
      t.ctx.cc.Vdsr_ref_unsat = hw.add (hw.add
        (hw.add (hw.mul c.gain.Kpd t.ctx.cc.Idsr_err) t.ctx.cc.Vdsr_integ)
        (hw.neg (hw.mul (hw.mul w c.par.Lq) t.ctx.cc.Iqsr_ref)))
        (hw.resComp .d t.ctx.cc.Idsr_ref t.ctx.cc.Idsr c.par.Rs) ∧
      t.ctx.cc.Vqsr_ref_unsat = hw.add (hw.add
        (hw.add (hw.mul c.gain.Kpq t.ctx.cc.Iqsr_err) t.ctx.cc.Vqsr_integ)
        (hw.mul w (hw.add (hw.mul c.par.Ld t.ctx.cc.Idsr_ref) c.par.Lamf)))
        (hw.resComp .q t.ctx.cc.Iqsr_ref t.ctx.cc.Iqsr c.par.Rs) ∧
      -- R146
      ClampsTo hw t.ctx.cc.Vdsr_ref_unsat (hw.neg vlim) vlim t.ctx.cc.Vdsr_ref ∧
      t.ctx.cc.Vdsr_aw = hw.sub t.ctx.cc.Vdsr_ref_unsat t.ctx.cc.Vdsr_ref ∧
      ClampsTo hw t.ctx.cc.Vqsr_ref_unsat (hw.neg vlim) vlim t.ctx.cc.Vqsr_ref ∧
      t.ctx.cc.Vqsr_aw = hw.sub t.ctx.cc.Vqsr_ref_unsat t.ctx.cc.Vqsr_ref ∧
      -- R147
      (t.ctx.md.Vdss_ref, t.ctx.md.Vqss_ref) =
        ipark hw t.ctx.cc.Vdsr_ref t.ctx.cc.Vqsr_ref (hw.sin adv) (hw.cos adv) ∧
      (t.ctx.md.Vas_ref, t.ctx.md.Vbs_ref, t.ctx.md.Vcs_ref) =
        iclarke hw t.ctx.md.Vdss_ref t.ctx.md.Vqss_ref ∧
      -- R148
      t.ctx.md.Vsn = hw.mul (hw.ofDecimal (-1) 2) (hw.add
        (hw.max (hw.max t.ctx.md.Vas_ref t.ctx.md.Vbs_ref) t.ctx.md.Vcs_ref)
        (hw.min (hw.min t.ctx.md.Vas_ref t.ctx.md.Vbs_ref) t.ctx.md.Vcs_ref)) ∧
      (flag c.ctl.MODE .COMP = false →
        t.ctx.md.Van_ref = hw.add t.ctx.md.Vas_ref t.ctx.md.Vsn ∧
        t.ctx.md.Vbn_ref = hw.add t.ctx.md.Vbs_ref t.ctx.md.Vsn ∧
        t.ctx.md.Vcn_ref = hw.add t.ctx.md.Vcs_ref t.ctx.md.Vsn) ∧
      (flag c.ctl.MODE .COMP = true →
        let ab := ipark hw t.ctx.cc.Idsr_ref t.ctx.cc.Iqsr_ref (hw.sin adv) (hw.cos adv)
        let i := iclarke hw ab.1 ab.2
        t.ctx.md.Van_ref = hw.add (hw.add t.ctx.md.Vas_ref t.ctx.md.Vsn)
          (hw.mul c.tun.DT_A (hw.atan (hw.mul c.tun.DT_B i.1))) ∧
        t.ctx.md.Vbn_ref = hw.add (hw.add t.ctx.md.Vbs_ref t.ctx.md.Vsn)
          (hw.mul c.tun.DT_A (hw.atan (hw.mul c.tun.DT_B i.2.1))) ∧
        t.ctx.md.Vcn_ref = hw.add (hw.add t.ctx.md.Vcs_ref t.ctx.md.Vsn)
          (hw.mul c.tun.DT_A (hw.atan (hw.mul c.tun.DT_B i.2.2)))) ∧
      -- R149
      ClampsTo hw (hw.add (hw.div t.ctx.md.Van_ref c.meas.Vdc) half) (hw.ofDecimal 0 1)
        (hw.ofDecimal 1 1) t.ctx.out.Duty_a ∧
      ClampsTo hw (hw.add (hw.div t.ctx.md.Vbn_ref c.meas.Vdc) half) (hw.ofDecimal 0 1)
        (hw.ofDecimal 1 1) t.ctx.out.Duty_b ∧
      ClampsTo hw (hw.add (hw.div t.ctx.md.Vcn_ref c.meas.Vdc) half) (hw.ofDecimal 0 1)
        (hw.ofDecimal 1 1) t.ctx.out.Duty_c ∧
      t.ctx.out.PWM_EN = (if c.flt.Fault_code = 0 then true else c.out.PWM_EN)

/-- `42_current_controller.md` R145: CC_STEP is refused when CC_LPF is not 0, and so is ALIGN_STEP in
the stages that run it (`47_alignment.md` R225). -/
def Obligations.SmoothingIsRefused : Prop :=
  ∀ s : State, hw.eq s.ctx.tun.CC_LPF (hw.ofDecimal 0 1) = false →
    exec .ccStep s = .refused .smoothing ∧
    (s.ctx.al.Align_stage = 1 ∨ s.ctx.al.Align_stage = 2 → exec .alignStep s = .refused .smoothing)

/-! ## Speed controller -/

/-- `43_speed_controller.md` R160 to R164: SC_STEP completes; the seven registers it leaves are those of
its four stages and no other register changes. -/
def Obligations.ScStepCompletesByItsStages : Prop :=
  ∀ s : State, let c := s.ctx
    let k := hw.div (hw.mul (hw.ofDecimal 2 1) hw.pi) (hw.ofDecimal 60 1)
    let dz := if hw.lt (hw.abs c.a.A0) (hw.mul (hw.ofDecimal 1 20) c.par.Wrpm_rated)
      then hw.ofDecimal 0 1 else c.a.A0
    let step := hw.mul (hw.mul c.tun.ACC_MAX k) hw.Ts
    ∃ t m, exec .scStep s = .next t ∧ t = { s with ctx := { c with sc := t.ctx.sc } } ∧
      ClampsTo hw (hw.sub (hw.mul dz k) c.sc.Wrm_ref) (hw.neg step) step m ∧
      t.ctx.sc.Wrm_ref = hw.add c.sc.Wrm_ref m ∧
      t.ctx.sc.Wrm = c.a.A1 ∧
      t.ctx.sc.Wrm_err = hw.sub t.ctx.sc.Wrm_ref t.ctx.sc.Wrm ∧
      t.ctx.sc.Te_integ = hw.add c.sc.Te_integ (hw.mul (hw.mul c.gain.Ki_sc
        (hw.sub t.ctx.sc.Wrm_err (hw.mul c.tun.Ka_sc c.sc.Te_aw))) hw.Ts) ∧
      t.ctx.sc.Te_ref_unsat = hw.add (hw.mul c.gain.Kp_sc t.ctx.sc.Wrm_err) t.ctx.sc.Te_integ ∧
      ClampsTo hw t.ctx.sc.Te_ref_unsat (hw.neg c.par.Te_rated) c.par.Te_rated t.ctx.sc.Te_ref ∧
      t.ctx.sc.Te_aw = hw.sub t.ctx.sc.Te_ref_unsat t.ctx.sc.Te_ref

/-- `43_speed_controller.md` R165: TORQUE_CTRL "writes Te_ref and nothing else". -/
def Obligations.TorqueCtrlWritesTeRefOnly : Prop :=
  ∀ s : State, let c := s.ctx
    let raw := hw.mul (hw.mul (hw.sub c.a.A0 (hw.ofDecimal 15 100)) (hw.ofDecimal 20 1)) c.par.Te_rated
    exec .torqueCtrl s = .next { s with ctx := { c with sc.Te_ref :=
      (if hw.lt (hw.abs raw) (hw.mul (hw.ofDecimal 1 20) c.par.Te_rated) then hw.ofDecimal 0 1
       else raw) } }

/-! ## Observers -/

/-- `44_hall_pll.md` R180 to R187, with `HALL_GAIN_SEL = secondary`: HALL_STEP completes; the table of
R182 for the six valid codes, the hold of R183 for codes 0 and 7. -/
def Obligations.HallStepCompletesByItsStages : Prop :=
  ∀ s : State, let c := s.ctx
    let code := c.smp.HALL_IN
    ∃ t, exec .hallStep s = .next t ∧ t = { s with ctx := { c with hall := t.ctx.hall } } ∧
      t.ctx.hall.Hall_code = code ∧
      t.ctx.hall.Theta_hall_ref =
        (match code.toNat with
         | 6 => hw.ofDecimal 0 1
         | 4 => hw.div hw.pi (hw.ofDecimal 3 1)
         | 5 => hw.div (hw.mul (hw.ofDecimal 2 1) hw.pi) (hw.ofDecimal 3 1)
         | 1 => hw.pi
         | 3 => hw.neg (hw.div (hw.mul (hw.ofDecimal 2 1) hw.pi) (hw.ofDecimal 3 1))
         | 2 => hw.neg (hw.div hw.pi (hw.ofDecimal 3 1))
         | _ => c.hall.Theta_hall_ref) ∧
      t.ctx.hall.Theta_hall_err = wrap hw (hw.sub t.ctx.hall.Theta_hall_ref c.hall.Thetar_hall) ∧
      t.ctx.hall.W_hall_integ = hw.add c.hall.W_hall_integ
        (hw.mul (hw.mul c.gain.Ki_hall t.ctx.hall.Theta_hall_err) hw.Ts) ∧
      t.ctx.hall.Wr_hall = hw.add (hw.mul c.gain.Kp_hall t.ctx.hall.Theta_hall_err)
        t.ctx.hall.W_hall_integ ∧
      t.ctx.hall.Thetar_hall = wrap hw (hw.add c.hall.Thetar_hall (hw.mul t.ctx.hall.Wr_hall hw.Ts))

/-- `45_full_order_observer.md` R195 to R199: both variants complete; the shared update, the variant's
output speed and rate, the outputs; no other register changes. -/
def Obligations.FooStepCompletesByItsStages : Prop :=
  ∀ s : State, let c := s.ctx
    let err := c.a.A0
    ∀ i ∈ [Instr.fooStepA, Instr.fooStepB], ∃ t, exec i s = .next t ∧
      t = { s with ctx := { c with foo := t.ctx.foo } } ∧
      t.ctx.foo.Thetarm_err = err ∧
      t.ctx.foo.Te_est = hw.mul c.gain.K2 err ∧
      t.ctx.foo.Tl_integ = hw.add c.foo.Tl_integ (hw.mul (hw.mul c.gain.K3 err) hw.Ts) ∧
      t.ctx.foo.Te_ff = hw.mul c.par.Kt c.cc.Iqsr ∧
      t.ctx.foo.Wrm_integ = hw.add c.foo.Wrm_integ (hw.mul (hw.div
        (hw.sub (hw.add (hw.add t.ctx.foo.Te_est t.ctx.foo.Te_ff) t.ctx.foo.Tl_integ)
          (hw.mul c.par.Bm c.foo.Wrm_integ)) c.par.Jm) hw.Ts) ∧
      (i = .fooStepA → t.ctx.foo.Wrm_est = t.ctx.foo.Wrm_integ) ∧
      (i = .fooStepB → t.ctx.foo.Wrm_est = hw.add t.ctx.foo.Wrm_integ (hw.mul c.gain.K1 err)) ∧
      t.ctx.foo.Thetarm_est = wrap hw (hw.add c.foo.Thetarm_est
        (hw.mul (hw.add t.ctx.foo.Wrm_integ (hw.mul c.gain.K1 err)) hw.Ts)) ∧
      t.ctx.foo.Thetar_est = wrap hw (hw.mul c.par.PP t.ctx.foo.Thetarm_est) ∧
      t.ctx.foo.Tl_est = hw.neg t.ctx.foo.Tl_integ

/-- `45_full_order_observer.md` R200: from one state the variants write the same registers but Wrm_est,
for every K1, and `Wrm_est(B) = Wrm_est(A) + (K1 · err)`. -/
def Obligations.FooVariantsDifferInWrmEstOnly : Prop :=
  ∀ s ta tb : State, exec .fooStepA s = .next ta → exec .fooStepB s = .next tb →
    (∀ r : Reg, r ≠ .Wrm_est → tb.ctx.read r = ta.ctx.read r) ∧
    tb.ctx.foo.Wrm_est = hw.add ta.ctx.foo.Wrm_est (hw.mul s.ctx.gain.K1 s.ctx.a.A0)

/-- `46_eemf_observer.md` R210 to R219: EEMF_STEP completes; Kp_eemf, Ki_eemf and the thirteen registers
are those of its nine stages; no other register changes. `10_state.md` R45 (c): the magnitude of
EEMFq_est is not below 1.0. -/
def Obligations.EemfStepCompletesByItsStages : Prop :=
  ∀ s : State, let c := s.ctx
    let th := c.a.A0
    let wp := c.a.A1
    let half := hw.ofDecimal 1 2
    let ab := clarke hw c.meas.Ia c.meas.Ib c.meas.Ic
    ∃ t, exec .eemfStep s = .next t ∧ t = { s with ctx := t.ctx } ∧
      t.ctx = { c with eemf := t.ctx.eemf, gain := { c.gain with
        Kp_eemf := hw.mul c.par.Ld c.bw.Wc_eemf, Ki_eemf := hw.mul c.par.Rs c.bw.Wc_eemf } } ∧
      (t.ctx.eemf.Vdse, t.ctx.eemf.Vqse) = park hw
        (hw.mul half (hw.add c.md.Vdss_ref c.eemf.Vdss_ref_old))
        (hw.mul half (hw.add c.md.Vqss_ref c.eemf.Vqss_ref_old)) (hw.sin th) (hw.cos th) ∧
      (t.ctx.eemf.Idse, t.ctx.eemf.Iqse) = park hw ab.1 ab.2 (hw.sin th) (hw.cos th) ∧
      t.ctx.eemf.EEMFd_integ = hw.add c.eemf.EEMFd_integ (hw.mul (hw.mul t.ctx.gain.Ki_eemf
        (hw.sub t.ctx.eemf.Idse c.eemf.Idse_est)) hw.Ts) ∧
      t.ctx.eemf.EEMFd_est = hw.add (hw.mul t.ctx.gain.Kp_eemf
        (hw.sub t.ctx.eemf.Idse c.eemf.Idse_est)) t.ctx.eemf.EEMFd_integ ∧
      t.ctx.eemf.EEMFq_integ = hw.add c.eemf.EEMFq_integ (hw.mul (hw.mul t.ctx.gain.Ki_eemf
        (hw.sub t.ctx.eemf.Iqse c.eemf.Iqse_est)) hw.Ts) ∧
      (let q := hw.add (hw.mul t.ctx.gain.Kp_eemf (hw.sub t.ctx.eemf.Iqse c.eemf.Iqse_est))
         t.ctx.eemf.EEMFq_integ
       t.ctx.eemf.EEMFq_est =
         if hw.lt (hw.abs q) (hw.ofDecimal 1 1) then hw.ofDecimal 1 1 else q) ∧
      t.ctx.eemf.Err_Thetar = hw.atan2 (hw.neg t.ctx.eemf.EEMFd_est) t.ctx.eemf.EEMFq_est ∧
      t.ctx.eemf.Idse_est = hw.add c.eemf.Idse_est (hw.mul (hw.div (hw.sub (hw.sub
        (hw.add t.ctx.eemf.Vdse (hw.mul (hw.mul wp c.par.Lq) t.ctx.eemf.Iqse)) t.ctx.eemf.EEMFd_est)
        (hw.mul c.par.Rs c.eemf.Idse_est)) c.par.Ld) hw.Ts) ∧
      t.ctx.eemf.Iqse_est = hw.add c.eemf.Iqse_est (hw.mul (hw.div (hw.sub (hw.sub
        (hw.sub t.ctx.eemf.Vqse (hw.mul (hw.mul wp c.par.Lq) t.ctx.eemf.Idse)) t.ctx.eemf.EEMFq_est)
        (hw.mul c.par.Rs c.eemf.Iqse_est)) c.par.Ld) hw.Ts) ∧
      t.ctx.eemf.Vdss_ref_old = c.md.Vdss_ref ∧ t.ctx.eemf.Vqss_ref_old = c.md.Vqss_ref ∧
      hw.lt (hw.abs t.ctx.eemf.EEMFq_est) (hw.ofDecimal 1 1) = false

/-! ## Alignment -/

/-- `47_alignment.md` R225 to R230: what one ALIGN_STEP does in each stage. In stages 1 and 2 it runs
CC_STEP on (Idsr_ref, 0, 0, 0) and (0, 0, 0, 0): the command on those operands leaves the register file
`u`, which the time accumulation and the dwell test then change. -/
def Obligations.AlignStepByStage : Prop :=
  ∀ s : State, let c := s.ctx
    let z := hw.ofDecimal 0 1
    (c.al.Align_stage = 0 →
      exec .alignStep s = .next { s with ctx := { c with
        sl.Thetar_sel := z, sl.Wr_sel := z, cc.Idsr_ref := c.par.I_align
        al.Align_stage := 1, al.Align_time := hw.add z hw.Ts, al.Align_done := false } }) ∧
    (c.al.Align_stage = 3 →
      exec .alignStep s = .next { s with ctx := { c with
        ctl.MODE := c.ctl.MODE &&& ~~~0x200#32
        al.Align_stage := 0, al.Align_time := hw.add c.al.Align_time hw.Ts
        al.Align_done := true } }) ∧
    (hw.eq c.tun.CC_LPF z = true → ∀ st : BitVec 2, c.al.Align_stage = st → st = 1 ∨ st = 2 →
      ∃ u : State,
        exec .ccStep { s with ctx := { c with
          a := ⟨if st = 1 then c.cc.Idsr_ref else z, z, z, z, z, z, z, z, z, z, z, z⟩ } } = .next u ∧
        let time := hw.add c.al.Align_time hw.Ts
        let moved := { u.ctx with a := c.a, al.Align_time := time }
        (st = 1 → exec .alignStep s = .next { s with ctx :=
          (if hw.le c.tun.T_ALIGN1 time then { moved with al.Align_stage := 2 } else moved) }) ∧
        (st = 2 → exec .alignStep s = .next { s with ctx :=
          (if hw.le c.tun.T_ALIGN2 time then { moved with
            al.Align_stage := 0, al.Align_done := true
            ctl.MODE := moved.ctl.MODE &&& ~~~0x200#32 } else moved) }))

/-- `47_alignment.md` R232, in the real instance with Ts = 0.0001, T_ALIGN1 = 4, T_ALIGN2 = 5: starting
with Align_stage = 0, Align_done is 0 at the end of calls 1 to 49,999, and call 50,000 ends with
Align_time = 5, Align_done = 1, MODE.ALIGN = 0 and Align_stage = 0. `run n` is the register file after
call `n`. Vdc is not 0, since the reals have no quotient by 0 (R127, X2). -/
def Obligations.AlignmentTakesFiftyThousandCalls : Prop :=
  ∀ (o : Reference.Open) (fr : Nat → ClampSite → ℝ) (run : Nat → Context ℝ),
    o.Ts = 1 / 10000 → (run 0).al.Align_stage = 0 →
    (run 0).tun.T_ALIGN1 = 4 → (run 0).tun.T_ALIGN2 = 5 → (run 0).tun.CC_LPF = 0 →
    (run 0).meas.Vdc ≠ 0 →
    (∀ n, n < 50000 → ∀ c,
      alignStep (Reference.params o) (fr n) (flag (run n).ctl.MODE .COMP) (run n) = .ok c →
      run (n + 1) = c) →
    (∀ n, n < 50000 → ∃ c,
      alignStep (Reference.params o) (fr n) (flag (run n).ctl.MODE .COMP) (run n) = .ok c) ∧
    (∀ n, 1 ≤ n → n < 50000 →
      (run n).al.Align_done = false ∧ (run n).al.Align_time = n / 10000 ∧
      (run n).al.Align_stage = if n < 40000 then 1 else 2) ∧
    (run 50000).al.Align_done = true ∧ (run 50000).al.Align_time = 5 ∧
    (run 50000).al.Align_stage = 0 ∧ flag (run 50000).ctl.MODE .ALIGN = false

/-! ## Fault supervisor -/

/-- `48_fault_supervisor.md` R241, R242, R243, R246: SW_FAULT_CHECK performs fault entry exactly when a
phase current's magnitude is 80 or more, and a latched hardware code stays. -/
def Obligations.SwFaultCheckTripsAtEighty : Prop :=
  ∀ s : State, let c := s.ctx
    let lim := hw.ofDecimal 80 1
    exec .swFaultCheck s = .next { s with ctx :=
      (if hw.le lim (hw.abs c.meas.Ia) = true ∨ hw.le lim (hw.abs c.meas.Ib) = true ∨
          hw.le lim (hw.abs c.meas.Ic) = true then
        { c with
          out.PWM_EN := false, out.Duty_a := 0#32, out.Duty_b := 0#32, out.Duty_c := 0#32
          ctl.MODE := (c.ctl.MODE &&& ~~~1#32) ||| 2#32
          flt.Fault_code := if c.flt.Fault_code = 1 then 1 else 2
          flt.F_Vdc := c.meas.Vdc, flt.F_Idc := c.meas.Idc, flt.F_Ia := c.meas.Ia
          flt.F_Ib := c.meas.Ib, flt.F_Ic := c.meas.Ic, flt.F_Wr := c.sl.Wr_sel
          flt.Fault_cnt := c.flt.Fault_cnt + 1 }
      else c) }

/-- `48_fault_supervisor.md` R244, R243, R246: HW_FAULT performs fault entry with the hardware code, as a
command and as the event (`30_encoding.md` R86), whatever CORE is doing. -/
def Obligations.HwFaultEntersAsCommandAndEvent : Prop :=
  ∀ s : State, let c := s.ctx
    let entered := { c with
      out.PWM_EN := false, out.Duty_a := 0#32, out.Duty_b := 0#32, out.Duty_c := 0#32
      ctl.MODE := (c.ctl.MODE &&& ~~~1#32) ||| 2#32
      flt.Fault_code := 1
      flt.F_Vdc := c.meas.Vdc, flt.F_Idc := c.meas.Idc, flt.F_Ia := c.meas.Ia
      flt.F_Ib := c.meas.Ib, flt.F_Ic := c.meas.Ic, flt.F_Wr := c.sl.Wr_sel
      flt.Fault_cnt := c.flt.Fault_cnt + 1 }
    exec .hwFault s = .next { s with ctx := entered } ∧
    ∀ rest, s.inputs = .hwfault :: rest → step s = .next { s with ctx := entered, inputs := rest }

/-- `48_fault_supervisor.md` R245: FAULT_CLEAR clears the code and MODE.FAULT, "Nothing else". -/
def Obligations.FaultClearResetsCodeOnly : Prop :=
  ∀ s : State, exec .faultClear s = .next { s with
    ctx.flt.Fault_code := 0, ctx.ctl.MODE := s.ctx.ctl.MODE &&& ~~~2#32 }

/-- `48_fault_supervisor.md` R242 and R247: a latched hardware code is never overwritten, whatever the
next step is, but by FAULT_CLEAR or RESET. -/
def Obligations.HardwareCodeIsNeverOverwritten : Prop :=
  ∀ s t : State, s.ctx.flt.Fault_code = 1 → step s = .next t →
    t.ctx.flt.Fault_code = 1 ∨ (∃ rest, s.inputs = .reset :: rest) ∨
      ∃ s', move s = .command .faultClear s'

/-! ## The cycle -/

/-- `49_mode_dispatcher.md` R260, R261, R263 to R267: whatever the mode, a cycle counts itself, calibrates
or converts, performs SW_FAULT_CHECK on the currents that S3 left, refreshes the ten gains of R108 and
runs the Hall observer on them; of the other gains it writes Kp_eemf and Ki_eemf, in the EEMF observer of
a sensorless cycle (R268, `46_eemf_observer.md` R211). A cycle whose check trips takes the idle path (R270, R281), so its output
is disabled and its run-mode flags are clear; one whose check does not trip leaves the fault registers as
they were. -/
def Obligations.EveryCycleSamplesAndObserves : Prop :=
  ∀ s t : State, exec .cycle s = .next t → let c := s.ctx
    t = { s with ctx := t.ctx } ∧
    t.ctx.ctl.CYCLE_CNT = c.ctl.CYCLE_CNT + 1 ∧
    (c.cal.CAL_DONE = false →
      t.ctx.meas = c.meas ∧ t.ctx.cal.CAL_CNT = c.cal.CAL_CNT + 1 ∧
      t.ctx.cal.CAL_DONE = (c.cal.CAL_CNT + 1 == 10000#32) ∧
      (5000#32 < c.cal.CAL_CNT + 1 →
        t.ctx.cal.OFFSET_SUM0 = hw.add c.cal.OFFSET_SUM0 (hw.ofInt c.smp.ADC_RAW0.toNat) ∧
        t.ctx.cal.OFFSET_SUM1 = hw.add c.cal.OFFSET_SUM1 (hw.ofInt c.smp.ADC_RAW1.toNat) ∧
        t.ctx.cal.OFFSET_SUM2 = hw.add c.cal.OFFSET_SUM2 (hw.ofInt c.smp.ADC_RAW2.toNat)) ∧
      (¬ 5000#32 < c.cal.CAL_CNT + 1 →
        t.ctx.cal.OFFSET_SUM0 = c.cal.OFFSET_SUM0 ∧ t.ctx.cal.OFFSET_SUM1 = c.cal.OFFSET_SUM1 ∧
        t.ctx.cal.OFFSET_SUM2 = c.cal.OFFSET_SUM2) ∧
      (c.cal.CAL_CNT + 1 = 10000#32 →
        t.ctx.cal.ADC1_Offset0 = hw.div t.ctx.cal.OFFSET_SUM0 (hw.ofDecimal 5000 1) ∧
        t.ctx.cal.ADC1_Offset1 = hw.div t.ctx.cal.OFFSET_SUM1 (hw.ofDecimal 5000 1) ∧
        t.ctx.cal.ADC1_Offset2 = hw.div t.ctx.cal.OFFSET_SUM2 (hw.ofDecimal 5000 1))) ∧
    (c.cal.CAL_DONE = true →
      t.ctx.cal = c.cal ∧
      t.ctx.meas.Ia = hw.mul (hw.div (hw.sub (hw.ofInt c.smp.ADC_RAW0.toNat) c.cal.ADC1_Offset0)
        (hw.ofDecimal 819 10)) c.smp.ADC_GAIN0 ∧
      t.ctx.meas.Ib = hw.mul (hw.div (hw.sub (hw.ofInt c.smp.ADC_RAW1.toNat) c.cal.ADC1_Offset1)
        (hw.ofDecimal 819 10)) c.smp.ADC_GAIN1 ∧
      t.ctx.meas.Ic = hw.mul (hw.div (hw.sub (hw.ofInt c.smp.ADC_RAW2.toNat) c.cal.ADC1_Offset2)
        (hw.ofDecimal 819 10)) c.smp.ADC_GAIN2 ∧
      t.ctx.meas.Vdc_lpf = hw.add (hw.mul (hw.ofDecimal 999 1000) c.meas.Vdc_lpf)
        (hw.mul (hw.sub (hw.ofDecimal 1 1) (hw.ofDecimal 999 1000))
          (hw.div (hw.ofInt c.smp.ADC_RAW3.toNat) (hw.ofDecimal 2034 10))) ∧
      t.ctx.meas.Vdc = hw.mul t.ctx.meas.Vdc_lpf c.smp.ADC_GAIN3 ∧
      t.ctx.meas.Idc = c.meas.Idc) ∧
    (let lim := hw.ofDecimal 80 1
     let m := t.ctx.meas
     (hw.le lim (hw.abs m.Ia) = true ∨ hw.le lim (hw.abs m.Ib) = true ∨
        hw.le lim (hw.abs m.Ic) = true →
      t.ctx.flt = { c.flt with
        Fault_code := if c.flt.Fault_code = 1 then 1 else 2
        F_Vdc := m.Vdc, F_Idc := m.Idc, F_Ia := m.Ia, F_Ib := m.Ib, F_Ic := m.Ic
        F_Wr := c.sl.Wr_sel, Fault_cnt := c.flt.Fault_cnt + 1 } ∧
      t.ctx.out = ⟨0#32, 0#32, 0#32, false⟩ ∧
      t.ctx.ctl.MODE = ((c.ctl.MODE &&& ~~~1#32) ||| 2#32) &&& ~~~0x3FC#32) ∧
     (¬ (hw.le lim (hw.abs m.Ia) = true ∨ hw.le lim (hw.abs m.Ib) = true ∨
        hw.le lim (hw.abs m.Ic) = true) → t.ctx.flt = c.flt)) ∧
    (let wh := hw.mul (hw.mul (hw.ofDecimal 2 1) hw.pi) (hw.ofDecimal 10 1)
     t.ctx.gain = { c.gain with
       Kpd := hw.mul c.bw.Wcc c.par.Ld, Kid := hw.mul c.bw.Wcc c.par.Rs
       Kpq := hw.mul c.bw.Wcc c.par.Lq, Kiq := hw.mul c.bw.Wcc c.par.Rs
       Kp_sc := hw.mul c.par.Jm c.bw.Wsc
       Ki_sc := hw.mul (hw.mul (hw.mul c.par.Jm c.bw.Wsc) c.bw.Wsc) (hw.ofDecimal 1 4)
       Kp_pll := hw.mul (hw.mul (hw.ofDecimal 2 1) (hw.ofDecimal 707 1000)) c.bw.Wpll
       Ki_pll := hw.mul c.bw.Wpll c.bw.Wpll
       Kp_hall := hw.mul (hw.mul (hw.ofDecimal 2 1) (hw.ofDecimal 707 1000)) wh
       Ki_hall := hw.mul wh wh
       Kp_eemf := if flag c.ctl.MODE .SENSORLESS then hw.mul c.par.Ld c.bw.Wc_eemf else c.gain.Kp_eemf
       Ki_eemf := if flag c.ctl.MODE .SENSORLESS then hw.mul c.par.Rs c.bw.Wc_eemf
         else c.gain.Ki_eemf }) ∧
    exec .hallStep { s with ctx := { c with gain := t.ctx.gain } } =
      .next { s with ctx := { c with gain := t.ctx.gain, hall := t.ctx.hall } }

/-- `49_mode_dispatcher.md` R260: a CYCLE completes when CC_LPF is 0 and neither VREF_GEN nor PARAM_EST
is set, and has counted itself. What it does to the registers is said by the statements before and after
this one. -/
def Obligations.CycleCompletes : Prop :=
  ∀ s : State, hw.eq s.ctx.tun.CC_LPF (hw.ofDecimal 0 1) = true →
    flag s.ctx.ctl.MODE .VREF_GEN = false → flag s.ctx.ctl.MODE .PARAM_EST = false →
    ∃ t, exec .cycle s = .next t ∧ t = { s with ctx := t.ctx } ∧
      t.ctx.ctl.CYCLE_CNT = s.ctx.ctl.CYCLE_CNT + 1

/-- `48_fault_supervisor.md` R247, `49_mode_dispatcher.md` R281, R284: with a fault latched, or not
ready, a CYCLE completes and ends in the idle path: output disabled, controllers and test duties zero,
run-mode flags cleared, alignment at stage 0, and a latched fault still latched. -/
def Obligations.LatchedOrNotReadyCycleIsIdle : Prop :=
  ∀ s : State, s.ctx.flt.Fault_code ≠ 0 ∨ flag s.ctx.ctl.MODE .READY = false →
    ∃ t, exec .cycle s = .next t ∧
      t.ctx.out.PWM_EN = false ∧ t.ctx.ctl.MODE &&& 0x3FC#32 = 0#32 ∧
      t.ctx.al.Align_stage = 0 ∧
      (∀ r ∈ Reg.ccRegs ++ Reg.mdRegs ++ Reg.scRegs ++
        [.Theta_ol, .Duty_test_a, .Duty_test_b, .Duty_test_c], t.ctx.read r = 0#32) ∧
      (s.ctx.flt.Fault_code ≠ 0 → t.ctx.flt.Fault_code ≠ 0)

/-- `70_reset_and_hazards.md` R336: "fault latched implies output disabled" holds at the end of every
complete CYCLE that no HWFAULT interrupts. -/
def Obligations.OutputDisabledAfterCompleteCycle : Prop :=
  ∀ s t : State, exec .cycle s = .next t → OutputSafe t.ctx

/-- `49_mode_dispatcher.md` R283: over 10,000 cycles from a register file whose
calibration has not begun, HOST and SMP acting between them, CAL_DONE is 0 at the end of cycles 1 to
9,999 and 1 at the end of cycle 10,000. -/
def Obligations.CalibrationCompletesAtTenThousand : Prop :=
  ∀ (before after : Nat → State),
    (before 1).ctx.cal.CAL_CNT = 0 → (before 1).ctx.cal.CAL_DONE = false →
    (∀ n, 1 ≤ n → n ≤ 10000 → exec .cycle (before n) = .next (after n)) →
    (∀ n, 1 ≤ n → n < 10000 → (before (n + 1)).ctx.cal = (after n).ctx.cal) →
    (∀ n, 1 ≤ n → n < 10000 →
      (after n).ctx.cal.CAL_DONE = false ∧ (after n).ctx.meas = (before n).ctx.meas) ∧
    (after 10000).ctx.cal.CAL_DONE = true

/-- `49_mode_dispatcher.md` R270: the first flag set in the priority order is the behaviour, and IDLE
runs when none is set, when not ready, and when a fault is latched. -/
def Obligations.BehaviourIsFirstFlagInOrder : Prop :=
  ∀ (m : Word) (f : BitVec 2),
    ((m.getLsbD 0 = false ∨ f ≠ 0) → behaviour m f = .IDLE) ∧
    (m.getLsbD 0 = true → f = 0 →
      ((∀ k, 2 ≤ k → k ≤ 9 → m.getLsbD k = false) → behaviour m f = .IDLE) ∧
      ∀ k b, (k, b) ∈ [(2, Behaviour.RUN), (3, .HALL_TEST), (4, .DUTY_TEST), (5, .OL_CURRENT),
          (6, .VREF_GEN), (7, .OL_VOLTAGE), (8, .PARAM_EST), (9, .ALIGN)] →
        m.getLsbD k = true → (∀ j, 2 ≤ j → j < k → m.getLsbD j = false) → behaviour m f = b)

/-- `49_mode_dispatcher.md` R268, R271, R278: the part of S7 between points Q1 and Q2. With
m.SENSORLESS = 1 the observers run first: EEMF_STEP on the angle and speed the previous cycle selected,
then the full-order observer on `Err_Thetar / PP`. -/
def Obligations.SelectedSourceByBehaviour : Prop :=
  ∀ (s : State) (l : Locals), s.cyc = some ⟨.S7sel, l⟩ → s.inputs = [] →
    let b := behaviour l.m l.f
    let v := if flag l.m .FOO_VARIANT then FooVariant.B else FooVariant.A
    let e := eemfStep hw s.ctx.sl.Thetar_sel s.ctx.sl.Wr_sel s.ctx
    let c := if flag l.m .SENSORLESS then fooStep hw v (hw.div e.eemf.Err_Thetar e.par.PP) e else s.ctx
    let th := wrap hw (hw.add c.sp.Theta_ol (hw.mul c.sp.W_ol hw.Ts))
    step s = .next { s with
      cyc := some ⟨.S7run, l⟩
      ctx :=
        (if b = .OL_CURRENT ∨ b = .OL_VOLTAGE then
          { c with sp.Theta_ol := th, sl.Thetar_sel := th, sl.Wr_sel := c.sp.W_ol }
        else if b = .ALIGN then
          { c with sl.Thetar_sel := hw.ofDecimal 0 1, sl.Wr_sel := hw.ofDecimal 0 1 }
        else if flag l.m .SENSORLESS then
          { c with sl.Thetar_sel := c.foo.Thetar_est, sl.Wr_sel := hw.mul c.par.PP c.foo.Wrm_est }
        else { c with sl.Thetar_sel := c.hall.Thetar_hall, sl.Wr_sel := c.hall.Wr_hall }) }

/-- `49_mode_dispatcher.md` R272, `43_speed_controller.md` R166: RUN performs TORQUE_CTRL or SC_STEP, the
conversion to a current reference, and CC_STEP up to its point P1. -/
def Obligations.RunBehaviourChainsControllers : Prop :=
  ∀ (s : State) (l : Locals), s.cyc = some ⟨.S7run, l⟩ → s.inputs = [] → behaviour l.m l.f = .RUN →
    hw.eq s.ctx.tun.CC_LPF (hw.ofDecimal 0 1) = true →
    let fr := hw.freeClamp s.draws
    let c1 := if flag l.m .TORQUE_SEL then torqueCtrl hw s.ctx.sp.Torque_cmd s.ctx
      else scStep hw fr s.ctx.sp.Wrpm_cmd (hw.div s.ctx.sl.Wr_sel s.ctx.par.PP) s.ctx
    let c2 := { c1 with md.Iqsr_ref_unsat := hw.div c1.sc.Te_ref c1.par.Kt }
    ∃ iq t, ClampsTo hw c2.md.Iqsr_ref_unsat (hw.neg c2.par.I_limit) c2.par.I_limit iq ∧
      ccDrive hw fr (flag l.m .COMP) (hw.ofDecimal 0 1) iq c2.sl.Thetar_sel c2.sl.Wr_sel c2 = .ok t ∧
      step s = .next { s with
        ctx := t, cyc := some ⟨.S7latch, { l with enReq := true, st := s.ctx.al.Align_stage }⟩ }

/-- `49_mode_dispatcher.md` R273, R274: the duties of the two test behaviours before the enable
request. -/
def Obligations.TestBehavioursSetDuties : Prop :=
  ∀ (s : State) (l : Locals), s.cyc = some ⟨.S7run, l⟩ → s.inputs = [] →
    let c := s.ctx
    let k := c.sp.Hall_test_sel
    let st := c.al.Align_stage
    (behaviour l.m l.f = .HALL_TEST → k ≠ 0 → k ≠ 7 →
      step s = .next { s with
        ctx := { c with
          out.Duty_a := (hw.hallTestVec k).1, out.Duty_b := (hw.hallTestVec k).2.1
          out.Duty_c := (hw.hallTestVec k).2.2 }
        cyc := some ⟨.S7latch, { l with enReq := true, st := st }⟩ }) ∧
    (behaviour l.m l.f = .HALL_TEST → k = 0 ∨ k = 7 →
      step s = .next { s with
        ctx := { c with out := ⟨hw.ofDecimal 0 1, hw.ofDecimal 0 1, hw.ofDecimal 0 1, false⟩ }
        cyc := some ⟨.S7latch, { l with enReq := false, st := st }⟩ }) ∧
    (behaviour l.m l.f = .DUTY_TEST →
      ∃ a b d, ClampsTo hw c.sp.Duty_test_a (hw.ofDecimal 0 1) (hw.ofDecimal 1 1) a ∧
        ClampsTo hw c.sp.Duty_test_b (hw.ofDecimal 0 1) (hw.ofDecimal 1 1) b ∧
        ClampsTo hw c.sp.Duty_test_c (hw.ofDecimal 0 1) (hw.ofDecimal 1 1) d ∧
        step s = .next { s with
          ctx := { c with out.Duty_a := a, out.Duty_b := b, out.Duty_c := d }
          cyc := some ⟨.S7latch, { l with enReq := true, st := st }⟩ })

/-- `49_mode_dispatcher.md` R275, R277, R280: OL_CURRENT is CC_STEP on the host references, OL_VOLTAGE is
stages 7 to 9 on the host voltages, both at the selected angle and speed. ALIGN is ALIGN_STEP once: the
actions of its stage up to point P1 (`47_alignment.md` R226 to R229), and, with no other agent between, the
three parts to the end of S7 leave what the command leaves, or are refused as it is, where MODE.COMP is as
the cycle's snapshot holds it. -/
def Obligations.OpenLoopBehaviours : Prop :=
  ∀ (s : State) (l : Locals), s.cyc = some ⟨.S7run, l⟩ → s.inputs = [] →
    let c := s.ctx
    let fr := hw.freeClamp s.draws
    let l' := { l with enReq := true, st := c.al.Align_stage }
    (behaviour l.m l.f = .OL_CURRENT → hw.eq c.tun.CC_LPF (hw.ofDecimal 0 1) = true →
      ∃ t, ccDrive hw fr (flag l.m .COMP) c.sp.Id_ol_ref c.sp.Iq_ol_ref c.sl.Thetar_sel c.sl.Wr_sel c
          = .ok t ∧ step s = .next { s with ctx := t, cyc := some ⟨.S7latch, l'⟩ }) ∧
    (behaviour l.m l.f = .OL_VOLTAGE →
      step s = .next { s with
        ctx := ccDuties hw fr (ccOffset hw (flag l.m .COMP) c.sl.Thetar_sel c.sl.Wr_sel
          (ccInverse hw c.sl.Thetar_sel c.sl.Wr_sel
            { c with cc.Vdsr_ref := c.sp.Vd_ol_ref, cc.Vqsr_ref := c.sp.Vq_ol_ref }))
        cyc := some ⟨.S7latch, l'⟩ }) ∧
    (behaviour l.m l.f = .ALIGN →
      let z := hw.ofDecimal 0 1
      let st := c.al.Align_stage
      (st = 0 → step s = .next { s with
        ctx := { c with sl := ⟨z, z⟩, cc.Idsr_ref := c.par.I_align, al := ⟨1, z, false⟩ }
        cyc := some ⟨.S7latch, { l with enReq := false, st := 0 }⟩ }) ∧
      (st = 3 → step s = .next { s with
        ctx := { c with
          al.Align_stage := 0, al.Align_done := true, ctl.MODE := c.ctl.MODE &&& ~~~0x200#32 }
        cyc := some ⟨.S7latch, { l with enReq := false, st := 3 }⟩ }) ∧
      (st = 1 ∨ st = 2 → hw.eq c.tun.CC_LPF z = true →
        ∃ t, ccDrive hw fr (flag l.m .COMP) (if st = 1 then c.cc.Idsr_ref else z) z z z c = .ok t ∧
          step s = .next { s with ctx := t, cyc := some ⟨.S7latch, l'⟩ }) ∧
      (flag l.m .COMP = flag c.ctl.MODE .COMP →
        (∀ t, exec .alignStep s = .next t →
          ∃ k : Locals, k.m = l.m ∧ core.run 3 s = .next { t with cyc := some ⟨.S8, k⟩ }) ∧
        (∀ r, exec .alignStep s = .refused r → core.run 3 s = .refused r)))

/-- `49_mode_dispatcher.md` R276, R279: a cycle that selects VREF_GEN or PARAM_EST is refused. -/
def Obligations.UndescribedModesAreRefused : Prop :=
  ∀ (s : State) (l : Locals), s.cyc = some ⟨.S7run, l⟩ → s.inputs = [] →
    (behaviour l.m l.f = .VREF_GEN → step s = .refused .vrefGen) ∧
    (behaviour l.m l.f = .PARAM_EST → step s = .refused .paramEst)

/-- `49_mode_dispatcher.md` R281: the idle path; the duties, READY and Fault_code are left as they
are. -/
def Obligations.IdleBehaviourShutsDown : Prop :=
  ∀ (s : State) (l : Locals), s.cyc = some ⟨.S7run, l⟩ → s.inputs = [] → behaviour l.m l.f = .IDLE →
    let c := s.ctx
    ∃ u, exec .resetCtrl s = .next u ∧
      step s = .next { s with
        ctx := { u.ctx with out.PWM_EN := false, ctl.MODE := c.ctl.MODE &&& ~~~0x3FC#32 }
        cyc := some ⟨.S7latch, { l with enReq := false, st := c.al.Align_stage }⟩ }

/-- `49_mode_dispatcher.md` R284, `47_alignment.md` R231: a cycle whose behaviour is not ALIGN leaves
Align_stage 0 and keeps Align_time and Align_done. One whose behaviour is ALIGN ends S7 with the enable of
R286, where its stage asked for it and the latch read was clear, and then the accumulation and the dwell
test of R230 for the stage it began in. -/
def Obligations.OtherBehavioursAbortAlignment : Prop :=
  ∀ (s : State) (l : Locals), s.cyc = some ⟨.S7fin, l⟩ → s.inputs = [] →
    (behaviour l.m l.f ≠ .ALIGN →
      ∃ t, step s = .next t ∧ t.ctx.al = { s.ctx.al with Align_stage := 0 } ∧ t.ctx.ctl = s.ctx.ctl) ∧
    (behaviour l.m l.f = .ALIGN →
      let c := s.ctx
      let time := hw.add c.al.Align_time hw.Ts
      let moved := { c with
        al.Align_time := time
        out.PWM_EN := if l.enReq = true ∧ l.f2 = 0 then true else c.out.PWM_EN }
      step s = .next { s with
        cyc := some ⟨.S8, l⟩
        ctx :=
          (if l.st = 1 ∧ hw.le c.tun.T_ALIGN1 time = true then { moved with al.Align_stage := 2 }
          else if l.st = 2 ∧ hw.le c.tun.T_ALIGN2 time = true then
            { moved with
              al.Align_stage := 0, al.Align_done := true, ctl.MODE := c.ctl.MODE &&& ~~~0x200#32 }
          else moved) })

/-- `49_mode_dispatcher.md` R286, and the points of R285 inside S7, `70_reset_and_hazards.md` R336. With no
HWFAULT between, an enable request sets PWM_EN where the latch reads 0 and leaves it where a fault is
latched; no other output and no fault register changes. In a cycle whose behaviour ends in an enable
request, a HWFAULT taken at Q1 or Q2 leaves the duties that the behaviour then writes (those of the run
without it, whose state at P1 is `u`) and PWM_EN 0; at P1 it leaves the duties 0 and PWM_EN 0; at P2, after
the latch was read as clear, the duties 0 and PWM_EN 1. In all four the fault is latched. -/
def Obligations.HwFaultAtPointsPOneAndPTwo : Prop :=
  ∀ (s u : State) (l : Locals) (p : InFlight) (rest : List Input),
    -- no HWFAULT
    (s.cyc = some ⟨.S7latch, l⟩ → s.inputs = [] →
      ∃ t, core.run 2 s = .next t ∧ t.ctx.flt = s.ctx.flt ∧
        t.ctx.out = { s.ctx.out with
          PWM_EN := if l.enReq = true ∧ s.ctx.flt.Fault_code = 0 then true else s.ctx.out.PWM_EN }) ∧
    -- point Q1
    (s.cyc = some ⟨.S7sel, l⟩ → s.inputs = .hwfault :: .cyc :: .cyc :: .cyc :: .cyc :: rest →
      core.run 2 { s with inputs := [] } = .next u → u.cyc = some p → p.loc.enReq = true →
      ∃ t, core.run 5 s = .next t ∧ t.ctx.flt.Fault_code = 1 ∧
        t.ctx.out = { u.ctx.out with PWM_EN := false }) ∧
    -- point Q2
    (s.cyc = some ⟨.S7run, l⟩ → s.inputs = .hwfault :: .cyc :: .cyc :: .cyc :: rest →
      step { s with inputs := [] } = .next u → u.cyc = some p → p.loc.enReq = true →
      ∃ t, core.run 4 s = .next t ∧ t.ctx.flt.Fault_code = 1 ∧
        t.ctx.out = { u.ctx.out with PWM_EN := false }) ∧
    -- point P1
    (s.cyc = some ⟨.S7latch, l⟩ → l.enReq = true → s.inputs = .hwfault :: .cyc :: .cyc :: rest →
      ∃ t, core.run 3 s = .next t ∧ t.ctx.flt.Fault_code = 1 ∧ t.ctx.out = ⟨0#32, 0#32, 0#32, false⟩) ∧
    -- point P2
    (s.cyc = some ⟨.S7fin, l⟩ → l.enReq = true → l.f2 = 0 → s.inputs = .hwfault :: .cyc :: rest →
      ∃ t, core.run 2 s = .next t ∧ t.ctx.flt.Fault_code = 1 ∧ t.ctx.out = ⟨0#32, 0#32, 0#32, true⟩)

/-! ## The machine as a whole -/

/-- An invariant of every step: MODE.FAULT mirrors the fault code (`10_state.md` R26), the code is never
3 (R43), the calibration count and flag agree (`49_mode_dispatcher.md` R263), and no step ends with
Align_stage = 3 (`47_alignment.md` R229). -/
def Obligations.StepKeepsSoundState : Prop :=
  ∀ s t : State, Sound s → step s = .next t → Sound t

/-- The invariant holds right after reset. -/
def Obligations.ResetStateIsSound : Prop := Sound State.reset

/-- `30_encoding.md` R86: "A TICK event has exactly the effect of the command CYCLE": a TICK and the
fifteen parts of its cycle, with no other agent between them, end as the command does, and are refused
as it is. The command's draws end with its step and the cycle's with its last part, so the model's draw
counter, no register, is advanced by one beside exec's next state (log entry 6). -/
def Obligations.TickPerformsCycle : Prop :=
  ∀ (s : State) (rest : List Input), s.cyc = none → s.inputs = .tick :: .settle :: rest →
    (∀ t, exec .cycle { s with inputs := rest } = .next t →
      core.run 17 s = .next { t with draws := t.draws + 1 }) ∧
    (∀ r, exec .cycle { s with inputs := rest } = .refused r → core.run 17 s = .refused r)

/-- `10_state.md` R22, R23: an operation changes no register but those whose "written by" column names
its rules: every other register reads as before, and neither the cycle in progress nor what is to come
changes. -/
def Obligations.ExecWritesOnlyItsRegisters : Prop :=
  ∀ (i : Instr) (s t : State), exec i s = .next t →
    t = { s with ctx := t.ctx } ∧ ∀ r : Reg, r ∉ writesOf i → t.ctx.read r = s.ctx.read r

/-- `00_scope.md` R7, of its "one correctly rounded operation" the nearness alone: for finite operands a
finite sum, product or quotient is at least as near the exact result as any other finite binary32 number.
How a tie is broken and where a result overflows is not said here. Values are integers in units of
2^-149, so the product is compared in units of 2^-298. -/
def Obligations.BinaryThirtyTwoRoundsToNearest : Prop :=
  ∀ a b x : F32, Binary32.isFinite a = true → Binary32.isFinite b = true →
    Binary32.isFinite x = true →
    (Binary32.isFinite (hw.add a b) = true →
      |Binary32.scaled (hw.add a b) - (Binary32.scaled a + Binary32.scaled b)| ≤
        |Binary32.scaled x - (Binary32.scaled a + Binary32.scaled b)|) ∧
    (Binary32.isFinite (hw.mul a b) = true →
      |2 ^ 149 * Binary32.scaled (hw.mul a b) - Binary32.scaled a * Binary32.scaled b| ≤
        |2 ^ 149 * Binary32.scaled x - Binary32.scaled a * Binary32.scaled b|) ∧
    (Binary32.scaled b ≠ 0 → Binary32.isFinite (hw.div a b) = true →
      |Binary32.scaled b * Binary32.scaled (hw.div a b) - 2 ^ 149 * Binary32.scaled a| ≤
        |Binary32.scaled b * Binary32.scaled x - 2 ^ 149 * Binary32.scaled a|)
end

