-- ==== Sys2Proof/Laws/State.lean ====
section
/-! SUPPORT. One lemma for each register group, or for each field of a group that changes, for each named
update of the register file: later proofs cite them and unfold no record update. -/

namespace Sys2Proof.Machine

variable {N : Type}

/-! ### Context.result1 -/

@[simp] theorem Context.result1_ctl (x : N) (c : Context N) : (c.result1 x).ctl = c.ctl := rfl
@[simp] theorem Context.result1_a (x : N) (c : Context N) : (c.result1 x).a = c.a := rfl
@[simp] theorem Context.result1_r_R0 (x : N) (c : Context N) : (c.result1 x).r.R0 = x := rfl
@[simp] theorem Context.result1_r_R1 (x : N) (c : Context N) : (c.result1 x).r.R1 = c.r.R1 := rfl
@[simp] theorem Context.result1_r_R2 (x : N) (c : Context N) : (c.result1 x).r.R2 = c.r.R2 := rfl
@[simp] theorem Context.result1_r_R3 (x : N) (c : Context N) : (c.result1 x).r.R3 = c.r.R3 := rfl
@[simp] theorem Context.result1_r_R4 (x : N) (c : Context N) : (c.result1 x).r.R4 = c.r.R4 := rfl
@[simp] theorem Context.result1_r_R5 (x : N) (c : Context N) : (c.result1 x).r.R5 = c.r.R5 := rfl
@[simp] theorem Context.result1_par (x : N) (c : Context N) : (c.result1 x).par = c.par := rfl
@[simp] theorem Context.result1_bw (x : N) (c : Context N) : (c.result1 x).bw = c.bw := rfl
@[simp] theorem Context.result1_gain (x : N) (c : Context N) : (c.result1 x).gain = c.gain := rfl
@[simp] theorem Context.result1_tun (x : N) (c : Context N) : (c.result1 x).tun = c.tun := rfl
@[simp] theorem Context.result1_smp (x : N) (c : Context N) : (c.result1 x).smp = c.smp := rfl
@[simp] theorem Context.result1_cal (x : N) (c : Context N) : (c.result1 x).cal = c.cal := rfl
@[simp] theorem Context.result1_meas (x : N) (c : Context N) : (c.result1 x).meas = c.meas := rfl
@[simp] theorem Context.result1_cc (x : N) (c : Context N) : (c.result1 x).cc = c.cc := rfl
@[simp] theorem Context.result1_md (x : N) (c : Context N) : (c.result1 x).md = c.md := rfl
@[simp] theorem Context.result1_sl (x : N) (c : Context N) : (c.result1 x).sl = c.sl := rfl
@[simp] theorem Context.result1_sc (x : N) (c : Context N) : (c.result1 x).sc = c.sc := rfl
@[simp] theorem Context.result1_hall (x : N) (c : Context N) : (c.result1 x).hall = c.hall := rfl
@[simp] theorem Context.result1_foo (x : N) (c : Context N) : (c.result1 x).foo = c.foo := rfl
@[simp] theorem Context.result1_eemf (x : N) (c : Context N) : (c.result1 x).eemf = c.eemf := rfl
@[simp] theorem Context.result1_al (x : N) (c : Context N) : (c.result1 x).al = c.al := rfl
@[simp] theorem Context.result1_flt (x : N) (c : Context N) : (c.result1 x).flt = c.flt := rfl
@[simp] theorem Context.result1_sp (x : N) (c : Context N) : (c.result1 x).sp = c.sp := rfl
@[simp] theorem Context.result1_out (x : N) (c : Context N) : (c.result1 x).out = c.out := rfl

/-! ### Context.result2 -/

@[simp] theorem Context.result2_ctl (x : N × N) (c : Context N) : (c.result2 x).ctl = c.ctl := rfl
@[simp] theorem Context.result2_a (x : N × N) (c : Context N) : (c.result2 x).a = c.a := rfl
@[simp] theorem Context.result2_r_R0 (x : N × N) (c : Context N) : (c.result2 x).r.R0 = x.1 := rfl
@[simp] theorem Context.result2_r_R1 (x : N × N) (c : Context N) : (c.result2 x).r.R1 = x.2 := rfl
@[simp] theorem Context.result2_r_R2 (x : N × N) (c : Context N) :
    (c.result2 x).r.R2 = c.r.R2 := rfl
@[simp] theorem Context.result2_r_R3 (x : N × N) (c : Context N) :
    (c.result2 x).r.R3 = c.r.R3 := rfl
@[simp] theorem Context.result2_r_R4 (x : N × N) (c : Context N) :
    (c.result2 x).r.R4 = c.r.R4 := rfl
@[simp] theorem Context.result2_r_R5 (x : N × N) (c : Context N) :
    (c.result2 x).r.R5 = c.r.R5 := rfl
@[simp] theorem Context.result2_par (x : N × N) (c : Context N) : (c.result2 x).par = c.par := rfl
@[simp] theorem Context.result2_bw (x : N × N) (c : Context N) : (c.result2 x).bw = c.bw := rfl
@[simp] theorem Context.result2_gain (x : N × N) (c : Context N) :
    (c.result2 x).gain = c.gain := rfl
@[simp] theorem Context.result2_tun (x : N × N) (c : Context N) : (c.result2 x).tun = c.tun := rfl
@[simp] theorem Context.result2_smp (x : N × N) (c : Context N) : (c.result2 x).smp = c.smp := rfl
@[simp] theorem Context.result2_cal (x : N × N) (c : Context N) : (c.result2 x).cal = c.cal := rfl
@[simp] theorem Context.result2_meas (x : N × N) (c : Context N) :
    (c.result2 x).meas = c.meas := rfl
@[simp] theorem Context.result2_cc (x : N × N) (c : Context N) : (c.result2 x).cc = c.cc := rfl
@[simp] theorem Context.result2_md (x : N × N) (c : Context N) : (c.result2 x).md = c.md := rfl
@[simp] theorem Context.result2_sl (x : N × N) (c : Context N) : (c.result2 x).sl = c.sl := rfl
@[simp] theorem Context.result2_sc (x : N × N) (c : Context N) : (c.result2 x).sc = c.sc := rfl
@[simp] theorem Context.result2_hall (x : N × N) (c : Context N) :
    (c.result2 x).hall = c.hall := rfl
@[simp] theorem Context.result2_foo (x : N × N) (c : Context N) : (c.result2 x).foo = c.foo := rfl
@[simp] theorem Context.result2_eemf (x : N × N) (c : Context N) :
    (c.result2 x).eemf = c.eemf := rfl
@[simp] theorem Context.result2_al (x : N × N) (c : Context N) : (c.result2 x).al = c.al := rfl
@[simp] theorem Context.result2_flt (x : N × N) (c : Context N) : (c.result2 x).flt = c.flt := rfl
@[simp] theorem Context.result2_sp (x : N × N) (c : Context N) : (c.result2 x).sp = c.sp := rfl
@[simp] theorem Context.result2_out (x : N × N) (c : Context N) : (c.result2 x).out = c.out := rfl

/-! ### Context.result3 -/

@[simp] theorem Context.result3_ctl (x : N × N × N) (c : Context N) :
    (c.result3 x).ctl = c.ctl := rfl
@[simp] theorem Context.result3_a (x : N × N × N) (c : Context N) : (c.result3 x).a = c.a := rfl
@[simp] theorem Context.result3_r_R0 (x : N × N × N) (c : Context N) :
    (c.result3 x).r.R0 = x.1 := rfl
@[simp] theorem Context.result3_r_R1 (x : N × N × N) (c : Context N) :
    (c.result3 x).r.R1 = x.2.1 := rfl
@[simp] theorem Context.result3_r_R2 (x : N × N × N) (c : Context N) :
    (c.result3 x).r.R2 = x.2.2 := rfl
@[simp] theorem Context.result3_r_R3 (x : N × N × N) (c : Context N) :
    (c.result3 x).r.R3 = c.r.R3 := rfl
@[simp] theorem Context.result3_r_R4 (x : N × N × N) (c : Context N) :
    (c.result3 x).r.R4 = c.r.R4 := rfl
@[simp] theorem Context.result3_r_R5 (x : N × N × N) (c : Context N) :
    (c.result3 x).r.R5 = c.r.R5 := rfl
@[simp] theorem Context.result3_par (x : N × N × N) (c : Context N) :
    (c.result3 x).par = c.par := rfl
@[simp] theorem Context.result3_bw (x : N × N × N) (c : Context N) : (c.result3 x).bw = c.bw := rfl
@[simp] theorem Context.result3_gain (x : N × N × N) (c : Context N) :
    (c.result3 x).gain = c.gain := rfl
@[simp] theorem Context.result3_tun (x : N × N × N) (c : Context N) :
    (c.result3 x).tun = c.tun := rfl
@[simp] theorem Context.result3_smp (x : N × N × N) (c : Context N) :
    (c.result3 x).smp = c.smp := rfl
@[simp] theorem Context.result3_cal (x : N × N × N) (c : Context N) :
    (c.result3 x).cal = c.cal := rfl
@[simp] theorem Context.result3_meas (x : N × N × N) (c : Context N) :
    (c.result3 x).meas = c.meas := rfl
@[simp] theorem Context.result3_cc (x : N × N × N) (c : Context N) : (c.result3 x).cc = c.cc := rfl
@[simp] theorem Context.result3_md (x : N × N × N) (c : Context N) : (c.result3 x).md = c.md := rfl
@[simp] theorem Context.result3_sl (x : N × N × N) (c : Context N) : (c.result3 x).sl = c.sl := rfl
@[simp] theorem Context.result3_sc (x : N × N × N) (c : Context N) : (c.result3 x).sc = c.sc := rfl
@[simp] theorem Context.result3_hall (x : N × N × N) (c : Context N) :
    (c.result3 x).hall = c.hall := rfl
@[simp] theorem Context.result3_foo (x : N × N × N) (c : Context N) :
    (c.result3 x).foo = c.foo := rfl
@[simp] theorem Context.result3_eemf (x : N × N × N) (c : Context N) :
    (c.result3 x).eemf = c.eemf := rfl
@[simp] theorem Context.result3_al (x : N × N × N) (c : Context N) : (c.result3 x).al = c.al := rfl
@[simp] theorem Context.result3_flt (x : N × N × N) (c : Context N) :
    (c.result3 x).flt = c.flt := rfl
@[simp] theorem Context.result3_sp (x : N × N × N) (c : Context N) : (c.result3 x).sp = c.sp := rfl
@[simp] theorem Context.result3_out (x : N × N × N) (c : Context N) :
    (c.result3 x).out = c.out := rfl

/-! ### Context.result4 -/

@[simp] theorem Context.result4_ctl (x : N × N × N × N) (c : Context N) :
    (c.result4 x).ctl = c.ctl := rfl
@[simp] theorem Context.result4_a (x : N × N × N × N) (c : Context N) : (c.result4 x).a = c.a := rfl
@[simp] theorem Context.result4_r_R0 (x : N × N × N × N) (c : Context N) :
    (c.result4 x).r.R0 = x.1 := rfl
@[simp] theorem Context.result4_r_R1 (x : N × N × N × N) (c : Context N) :
    (c.result4 x).r.R1 = x.2.1 := rfl
@[simp] theorem Context.result4_r_R2 (x : N × N × N × N) (c : Context N) :
    (c.result4 x).r.R2 = x.2.2.1 := rfl
@[simp] theorem Context.result4_r_R3 (x : N × N × N × N) (c : Context N) :
    (c.result4 x).r.R3 = x.2.2.2 := rfl
@[simp] theorem Context.result4_r_R4 (x : N × N × N × N) (c : Context N) :
    (c.result4 x).r.R4 = c.r.R4 := rfl
@[simp] theorem Context.result4_r_R5 (x : N × N × N × N) (c : Context N) :
    (c.result4 x).r.R5 = c.r.R5 := rfl
@[simp] theorem Context.result4_par (x : N × N × N × N) (c : Context N) :
    (c.result4 x).par = c.par := rfl
@[simp] theorem Context.result4_bw (x : N × N × N × N) (c : Context N) :
    (c.result4 x).bw = c.bw := rfl
@[simp] theorem Context.result4_gain (x : N × N × N × N) (c : Context N) :
    (c.result4 x).gain = c.gain := rfl
@[simp] theorem Context.result4_tun (x : N × N × N × N) (c : Context N) :
    (c.result4 x).tun = c.tun := rfl
@[simp] theorem Context.result4_smp (x : N × N × N × N) (c : Context N) :
    (c.result4 x).smp = c.smp := rfl
@[simp] theorem Context.result4_cal (x : N × N × N × N) (c : Context N) :
    (c.result4 x).cal = c.cal := rfl
@[simp] theorem Context.result4_meas (x : N × N × N × N) (c : Context N) :
    (c.result4 x).meas = c.meas := rfl
@[simp] theorem Context.result4_cc (x : N × N × N × N) (c : Context N) :
    (c.result4 x).cc = c.cc := rfl
@[simp] theorem Context.result4_md (x : N × N × N × N) (c : Context N) :
    (c.result4 x).md = c.md := rfl
@[simp] theorem Context.result4_sl (x : N × N × N × N) (c : Context N) :
    (c.result4 x).sl = c.sl := rfl
@[simp] theorem Context.result4_sc (x : N × N × N × N) (c : Context N) :
    (c.result4 x).sc = c.sc := rfl
@[simp] theorem Context.result4_hall (x : N × N × N × N) (c : Context N) :
    (c.result4 x).hall = c.hall := rfl
@[simp] theorem Context.result4_foo (x : N × N × N × N) (c : Context N) :
    (c.result4 x).foo = c.foo := rfl
@[simp] theorem Context.result4_eemf (x : N × N × N × N) (c : Context N) :
    (c.result4 x).eemf = c.eemf := rfl
@[simp] theorem Context.result4_al (x : N × N × N × N) (c : Context N) :
    (c.result4 x).al = c.al := rfl
@[simp] theorem Context.result4_flt (x : N × N × N × N) (c : Context N) :
    (c.result4 x).flt = c.flt := rfl
@[simp] theorem Context.result4_sp (x : N × N × N × N) (c : Context N) :
    (c.result4 x).sp = c.sp := rfl
@[simp] theorem Context.result4_out (x : N × N × N × N) (c : Context N) :
    (c.result4 x).out = c.out := rfl

/-! ### setDuties -/

@[simp] theorem setDuties_ctl (d : N × N × N) (c : Context N) : (setDuties d c).ctl = c.ctl := rfl
@[simp] theorem setDuties_a (d : N × N × N) (c : Context N) : (setDuties d c).a = c.a := rfl
@[simp] theorem setDuties_r (d : N × N × N) (c : Context N) : (setDuties d c).r = c.r := rfl
@[simp] theorem setDuties_par (d : N × N × N) (c : Context N) : (setDuties d c).par = c.par := rfl
@[simp] theorem setDuties_bw (d : N × N × N) (c : Context N) : (setDuties d c).bw = c.bw := rfl
@[simp] theorem setDuties_gain (d : N × N × N) (c : Context N) :
    (setDuties d c).gain = c.gain := rfl
@[simp] theorem setDuties_tun (d : N × N × N) (c : Context N) : (setDuties d c).tun = c.tun := rfl
@[simp] theorem setDuties_smp (d : N × N × N) (c : Context N) : (setDuties d c).smp = c.smp := rfl
@[simp] theorem setDuties_cal (d : N × N × N) (c : Context N) : (setDuties d c).cal = c.cal := rfl
@[simp] theorem setDuties_meas (d : N × N × N) (c : Context N) :
    (setDuties d c).meas = c.meas := rfl
@[simp] theorem setDuties_cc (d : N × N × N) (c : Context N) : (setDuties d c).cc = c.cc := rfl
@[simp] theorem setDuties_md (d : N × N × N) (c : Context N) : (setDuties d c).md = c.md := rfl
@[simp] theorem setDuties_sl (d : N × N × N) (c : Context N) : (setDuties d c).sl = c.sl := rfl
@[simp] theorem setDuties_sc (d : N × N × N) (c : Context N) : (setDuties d c).sc = c.sc := rfl
@[simp] theorem setDuties_hall (d : N × N × N) (c : Context N) :
    (setDuties d c).hall = c.hall := rfl
@[simp] theorem setDuties_foo (d : N × N × N) (c : Context N) : (setDuties d c).foo = c.foo := rfl
@[simp] theorem setDuties_eemf (d : N × N × N) (c : Context N) :
    (setDuties d c).eemf = c.eemf := rfl
@[simp] theorem setDuties_al (d : N × N × N) (c : Context N) : (setDuties d c).al = c.al := rfl
@[simp] theorem setDuties_flt (d : N × N × N) (c : Context N) : (setDuties d c).flt = c.flt := rfl
@[simp] theorem setDuties_sp (d : N × N × N) (c : Context N) : (setDuties d c).sp = c.sp := rfl
@[simp] theorem setDuties_out_Duty_a (d : N × N × N) (c : Context N) :
    (setDuties d c).out.Duty_a = d.1 := rfl
@[simp] theorem setDuties_out_Duty_b (d : N × N × N) (c : Context N) :
    (setDuties d c).out.Duty_b = d.2.1 := rfl
@[simp] theorem setDuties_out_Duty_c (d : N × N × N) (c : Context N) :
    (setDuties d c).out.Duty_c = d.2.2 := rfl
@[simp] theorem setDuties_out_PWM_EN (d : N × N × N) (c : Context N) :
    (setDuties d c).out.PWM_EN = c.out.PWM_EN := rfl

/-! ### enableWith -/

@[simp] theorem enableWith_ctl (f : BitVec 2) (c : Context N) :
    (enableWith f c).ctl = c.ctl := by
  unfold enableWith; split <;> simp_all
@[simp] theorem enableWith_a (f : BitVec 2) (c : Context N) :
    (enableWith f c).a = c.a := by
  unfold enableWith; split <;> simp_all
@[simp] theorem enableWith_r (f : BitVec 2) (c : Context N) :
    (enableWith f c).r = c.r := by
  unfold enableWith; split <;> simp_all
@[simp] theorem enableWith_par (f : BitVec 2) (c : Context N) :
    (enableWith f c).par = c.par := by
  unfold enableWith; split <;> simp_all
@[simp] theorem enableWith_bw (f : BitVec 2) (c : Context N) :
    (enableWith f c).bw = c.bw := by
  unfold enableWith; split <;> simp_all
@[simp] theorem enableWith_gain (f : BitVec 2) (c : Context N) :
    (enableWith f c).gain = c.gain := by
  unfold enableWith; split <;> simp_all
@[simp] theorem enableWith_tun (f : BitVec 2) (c : Context N) :
    (enableWith f c).tun = c.tun := by
  unfold enableWith; split <;> simp_all
@[simp] theorem enableWith_smp (f : BitVec 2) (c : Context N) :
    (enableWith f c).smp = c.smp := by
  unfold enableWith; split <;> simp_all
@[simp] theorem enableWith_cal (f : BitVec 2) (c : Context N) :
    (enableWith f c).cal = c.cal := by
  unfold enableWith; split <;> simp_all
@[simp] theorem enableWith_meas (f : BitVec 2) (c : Context N) :
    (enableWith f c).meas = c.meas := by
  unfold enableWith; split <;> simp_all
@[simp] theorem enableWith_cc (f : BitVec 2) (c : Context N) :
    (enableWith f c).cc = c.cc := by
  unfold enableWith; split <;> simp_all
@[simp] theorem enableWith_md (f : BitVec 2) (c : Context N) :
    (enableWith f c).md = c.md := by
  unfold enableWith; split <;> simp_all
@[simp] theorem enableWith_sl (f : BitVec 2) (c : Context N) :
    (enableWith f c).sl = c.sl := by
  unfold enableWith; split <;> simp_all
@[simp] theorem enableWith_sc (f : BitVec 2) (c : Context N) :
    (enableWith f c).sc = c.sc := by
  unfold enableWith; split <;> simp_all
@[simp] theorem enableWith_hall (f : BitVec 2) (c : Context N) :
    (enableWith f c).hall = c.hall := by
  unfold enableWith; split <;> simp_all
@[simp] theorem enableWith_foo (f : BitVec 2) (c : Context N) :
    (enableWith f c).foo = c.foo := by
  unfold enableWith; split <;> simp_all
@[simp] theorem enableWith_eemf (f : BitVec 2) (c : Context N) :
    (enableWith f c).eemf = c.eemf := by
  unfold enableWith; split <;> simp_all
@[simp] theorem enableWith_al (f : BitVec 2) (c : Context N) :
    (enableWith f c).al = c.al := by
  unfold enableWith; split <;> simp_all
@[simp] theorem enableWith_flt (f : BitVec 2) (c : Context N) :
    (enableWith f c).flt = c.flt := by
  unfold enableWith; split <;> simp_all
@[simp] theorem enableWith_sp (f : BitVec 2) (c : Context N) :
    (enableWith f c).sp = c.sp := by
  unfold enableWith; split <;> simp_all
@[simp] theorem enableWith_out_Duty_a (f : BitVec 2) (c : Context N) :
    (enableWith f c).out.Duty_a = c.out.Duty_a := by
  unfold enableWith; split <;> simp_all
@[simp] theorem enableWith_out_Duty_b (f : BitVec 2) (c : Context N) :
    (enableWith f c).out.Duty_b = c.out.Duty_b := by
  unfold enableWith; split <;> simp_all
@[simp] theorem enableWith_out_Duty_c (f : BitVec 2) (c : Context N) :
    (enableWith f c).out.Duty_c = c.out.Duty_c := by
  unfold enableWith; split <;> simp_all
@[simp] theorem enableWith_out_PWM_EN (f : BitVec 2) (c : Context N) :
    (enableWith f c).out.PWM_EN = (decide (f = 0) || c.out.PWM_EN) := by
  unfold enableWith; split <;> simp_all

/-! ### faultEntry -/

@[simp] theorem faultEntry_ctl_CMD (P : Params N) (k : FaultKind) (c : Context N) :
    (faultEntry P k c).ctl.CMD = c.ctl.CMD := rfl
@[simp] theorem faultEntry_ctl_CMD_ILLEGAL (P : Params N) (k : FaultKind) (c : Context N) :
    (faultEntry P k c).ctl.CMD_ILLEGAL = c.ctl.CMD_ILLEGAL := rfl
@[simp] theorem faultEntry_ctl_CYCLE_CNT (P : Params N) (k : FaultKind) (c : Context N) :
    (faultEntry P k c).ctl.CYCLE_CNT = c.ctl.CYCLE_CNT := rfl
@[simp] theorem faultEntry_ctl_MODE (P : Params N) (k : FaultKind) (c : Context N) :
    (faultEntry P k c).ctl.MODE = setFlag (clearFlag c.ctl.MODE .READY) .FAULT := rfl
@[simp] theorem faultEntry_a (P : Params N) (k : FaultKind) (c : Context N) :
    (faultEntry P k c).a = c.a := rfl
@[simp] theorem faultEntry_r (P : Params N) (k : FaultKind) (c : Context N) :
    (faultEntry P k c).r = c.r := rfl
@[simp] theorem faultEntry_par (P : Params N) (k : FaultKind) (c : Context N) :
    (faultEntry P k c).par = c.par := rfl
@[simp] theorem faultEntry_bw (P : Params N) (k : FaultKind) (c : Context N) :
    (faultEntry P k c).bw = c.bw := rfl
@[simp] theorem faultEntry_gain (P : Params N) (k : FaultKind) (c : Context N) :
    (faultEntry P k c).gain = c.gain := rfl
@[simp] theorem faultEntry_tun (P : Params N) (k : FaultKind) (c : Context N) :
    (faultEntry P k c).tun = c.tun := rfl
@[simp] theorem faultEntry_smp (P : Params N) (k : FaultKind) (c : Context N) :
    (faultEntry P k c).smp = c.smp := rfl
@[simp] theorem faultEntry_cal (P : Params N) (k : FaultKind) (c : Context N) :
    (faultEntry P k c).cal = c.cal := rfl
@[simp] theorem faultEntry_meas (P : Params N) (k : FaultKind) (c : Context N) :
    (faultEntry P k c).meas = c.meas := rfl
@[simp] theorem faultEntry_cc (P : Params N) (k : FaultKind) (c : Context N) :
    (faultEntry P k c).cc = c.cc := rfl
@[simp] theorem faultEntry_md (P : Params N) (k : FaultKind) (c : Context N) :
    (faultEntry P k c).md = c.md := rfl
@[simp] theorem faultEntry_sl (P : Params N) (k : FaultKind) (c : Context N) :
    (faultEntry P k c).sl = c.sl := rfl
@[simp] theorem faultEntry_sc (P : Params N) (k : FaultKind) (c : Context N) :
    (faultEntry P k c).sc = c.sc := rfl
@[simp] theorem faultEntry_hall (P : Params N) (k : FaultKind) (c : Context N) :
    (faultEntry P k c).hall = c.hall := rfl
@[simp] theorem faultEntry_foo (P : Params N) (k : FaultKind) (c : Context N) :
    (faultEntry P k c).foo = c.foo := rfl
@[simp] theorem faultEntry_eemf (P : Params N) (k : FaultKind) (c : Context N) :
    (faultEntry P k c).eemf = c.eemf := rfl
@[simp] theorem faultEntry_al (P : Params N) (k : FaultKind) (c : Context N) :
    (faultEntry P k c).al = c.al := rfl
@[simp] theorem faultEntry_flt_Fault_code (P : Params N) (k : FaultKind) (c : Context N) :
    (faultEntry P k c).flt.Fault_code = faultCodeUpdate k c.flt.Fault_code := rfl
@[simp] theorem faultEntry_flt_Fault_cnt (P : Params N) (k : FaultKind) (c : Context N) :
    (faultEntry P k c).flt.Fault_cnt = c.flt.Fault_cnt + 1 := rfl
@[simp] theorem faultEntry_flt_F_Vdc (P : Params N) (k : FaultKind) (c : Context N) :
    (faultEntry P k c).flt.F_Vdc = c.meas.Vdc := rfl
@[simp] theorem faultEntry_flt_F_Idc (P : Params N) (k : FaultKind) (c : Context N) :
    (faultEntry P k c).flt.F_Idc = c.meas.Idc := rfl
@[simp] theorem faultEntry_flt_F_Ia (P : Params N) (k : FaultKind) (c : Context N) :
    (faultEntry P k c).flt.F_Ia = c.meas.Ia := rfl
@[simp] theorem faultEntry_flt_F_Ib (P : Params N) (k : FaultKind) (c : Context N) :
    (faultEntry P k c).flt.F_Ib = c.meas.Ib := rfl
@[simp] theorem faultEntry_flt_F_Ic (P : Params N) (k : FaultKind) (c : Context N) :
    (faultEntry P k c).flt.F_Ic = c.meas.Ic := rfl
@[simp] theorem faultEntry_flt_F_Wr (P : Params N) (k : FaultKind) (c : Context N) :
    (faultEntry P k c).flt.F_Wr = c.sl.Wr_sel := rfl
@[simp] theorem faultEntry_sp (P : Params N) (k : FaultKind) (c : Context N) :
    (faultEntry P k c).sp = c.sp := rfl
@[simp] theorem faultEntry_out_Duty_a (P : Params N) (k : FaultKind) (c : Context N) :
    (faultEntry P k c).out.Duty_a = zero P := rfl
@[simp] theorem faultEntry_out_Duty_b (P : Params N) (k : FaultKind) (c : Context N) :
    (faultEntry P k c).out.Duty_b = zero P := rfl
@[simp] theorem faultEntry_out_Duty_c (P : Params N) (k : FaultKind) (c : Context N) :
    (faultEntry P k c).out.Duty_c = zero P := rfl
@[simp] theorem faultEntry_out_PWM_EN (P : Params N) (k : FaultKind) (c : Context N) :
    (faultEntry P k c).out.PWM_EN = false := rfl

/-! ### faultLeave -/

@[simp] theorem faultLeave_ctl_CMD (c : Context N) : (faultLeave c).ctl.CMD = c.ctl.CMD := rfl
@[simp] theorem faultLeave_ctl_CMD_ILLEGAL (c : Context N) :
    (faultLeave c).ctl.CMD_ILLEGAL = c.ctl.CMD_ILLEGAL := rfl
@[simp] theorem faultLeave_ctl_CYCLE_CNT (c : Context N) :
    (faultLeave c).ctl.CYCLE_CNT = c.ctl.CYCLE_CNT := rfl
@[simp] theorem faultLeave_ctl_MODE (c : Context N) :
    (faultLeave c).ctl.MODE = clearFlag c.ctl.MODE .FAULT := rfl
@[simp] theorem faultLeave_a (c : Context N) : (faultLeave c).a = c.a := rfl
@[simp] theorem faultLeave_r (c : Context N) : (faultLeave c).r = c.r := rfl
@[simp] theorem faultLeave_par (c : Context N) : (faultLeave c).par = c.par := rfl
@[simp] theorem faultLeave_bw (c : Context N) : (faultLeave c).bw = c.bw := rfl
@[simp] theorem faultLeave_gain (c : Context N) : (faultLeave c).gain = c.gain := rfl
@[simp] theorem faultLeave_tun (c : Context N) : (faultLeave c).tun = c.tun := rfl
@[simp] theorem faultLeave_smp (c : Context N) : (faultLeave c).smp = c.smp := rfl
@[simp] theorem faultLeave_cal (c : Context N) : (faultLeave c).cal = c.cal := rfl
@[simp] theorem faultLeave_meas (c : Context N) : (faultLeave c).meas = c.meas := rfl
@[simp] theorem faultLeave_cc (c : Context N) : (faultLeave c).cc = c.cc := rfl
@[simp] theorem faultLeave_md (c : Context N) : (faultLeave c).md = c.md := rfl
@[simp] theorem faultLeave_sl (c : Context N) : (faultLeave c).sl = c.sl := rfl
@[simp] theorem faultLeave_sc (c : Context N) : (faultLeave c).sc = c.sc := rfl
@[simp] theorem faultLeave_hall (c : Context N) : (faultLeave c).hall = c.hall := rfl
@[simp] theorem faultLeave_foo (c : Context N) : (faultLeave c).foo = c.foo := rfl
@[simp] theorem faultLeave_eemf (c : Context N) : (faultLeave c).eemf = c.eemf := rfl
@[simp] theorem faultLeave_al (c : Context N) : (faultLeave c).al = c.al := rfl
@[simp] theorem faultLeave_flt_Fault_code (c : Context N) : (faultLeave c).flt.Fault_code = 0 := rfl
@[simp] theorem faultLeave_flt_Fault_cnt (c : Context N) :
    (faultLeave c).flt.Fault_cnt = c.flt.Fault_cnt := rfl
@[simp] theorem faultLeave_flt_F_Vdc (c : Context N) : (faultLeave c).flt.F_Vdc = c.flt.F_Vdc := rfl
@[simp] theorem faultLeave_flt_F_Idc (c : Context N) : (faultLeave c).flt.F_Idc = c.flt.F_Idc := rfl
@[simp] theorem faultLeave_flt_F_Ia (c : Context N) : (faultLeave c).flt.F_Ia = c.flt.F_Ia := rfl
@[simp] theorem faultLeave_flt_F_Ib (c : Context N) : (faultLeave c).flt.F_Ib = c.flt.F_Ib := rfl
@[simp] theorem faultLeave_flt_F_Ic (c : Context N) : (faultLeave c).flt.F_Ic = c.flt.F_Ic := rfl
@[simp] theorem faultLeave_flt_F_Wr (c : Context N) : (faultLeave c).flt.F_Wr = c.flt.F_Wr := rfl
@[simp] theorem faultLeave_sp (c : Context N) : (faultLeave c).sp = c.sp := rfl
@[simp] theorem faultLeave_out (c : Context N) : (faultLeave c).out = c.out := rfl

/-! ### zeroCurrent -/

@[simp] theorem zeroCurrent_ctl (P : Params N) (c : Context N) :
    (zeroCurrent P c).ctl = c.ctl := rfl
@[simp] theorem zeroCurrent_a (P : Params N) (c : Context N) : (zeroCurrent P c).a = c.a := rfl
@[simp] theorem zeroCurrent_r (P : Params N) (c : Context N) : (zeroCurrent P c).r = c.r := rfl
@[simp] theorem zeroCurrent_par (P : Params N) (c : Context N) :
    (zeroCurrent P c).par = c.par := rfl
@[simp] theorem zeroCurrent_bw (P : Params N) (c : Context N) : (zeroCurrent P c).bw = c.bw := rfl
@[simp] theorem zeroCurrent_gain (P : Params N) (c : Context N) :
    (zeroCurrent P c).gain = c.gain := rfl
@[simp] theorem zeroCurrent_tun (P : Params N) (c : Context N) :
    (zeroCurrent P c).tun = c.tun := rfl
@[simp] theorem zeroCurrent_smp (P : Params N) (c : Context N) :
    (zeroCurrent P c).smp = c.smp := rfl
@[simp] theorem zeroCurrent_cal (P : Params N) (c : Context N) :
    (zeroCurrent P c).cal = c.cal := rfl
@[simp] theorem zeroCurrent_meas (P : Params N) (c : Context N) :
    (zeroCurrent P c).meas = c.meas := rfl
@[simp] theorem zeroCurrent_cc (P : Params N) (c : Context N) :
    (zeroCurrent P c).cc = CurrentCtrl.zeros (zero P) := rfl
@[simp] theorem zeroCurrent_md (P : Params N) (c : Context N) :
    (zeroCurrent P c).md = Modulator.zeros (zero P) := rfl
@[simp] theorem zeroCurrent_sl (P : Params N) (c : Context N) : (zeroCurrent P c).sl = c.sl := rfl
@[simp] theorem zeroCurrent_sc (P : Params N) (c : Context N) : (zeroCurrent P c).sc = c.sc := rfl
@[simp] theorem zeroCurrent_hall (P : Params N) (c : Context N) :
    (zeroCurrent P c).hall = c.hall := rfl
@[simp] theorem zeroCurrent_foo (P : Params N) (c : Context N) :
    (zeroCurrent P c).foo = c.foo := rfl
@[simp] theorem zeroCurrent_eemf (P : Params N) (c : Context N) :
    (zeroCurrent P c).eemf = c.eemf := rfl
@[simp] theorem zeroCurrent_al (P : Params N) (c : Context N) : (zeroCurrent P c).al = c.al := rfl
@[simp] theorem zeroCurrent_flt (P : Params N) (c : Context N) :
    (zeroCurrent P c).flt = c.flt := rfl
@[simp] theorem zeroCurrent_sp (P : Params N) (c : Context N) : (zeroCurrent P c).sp = c.sp := rfl
@[simp] theorem zeroCurrent_out (P : Params N) (c : Context N) :
    (zeroCurrent P c).out = c.out := rfl

/-! ### resetControllers -/

@[simp] theorem resetControllers_ctl (P : Params N) (c : Context N) :
    (resetControllers P c).ctl = c.ctl := rfl
@[simp] theorem resetControllers_a (P : Params N) (c : Context N) :
    (resetControllers P c).a = c.a := rfl
@[simp] theorem resetControllers_r (P : Params N) (c : Context N) :
    (resetControllers P c).r = c.r := rfl
@[simp] theorem resetControllers_par (P : Params N) (c : Context N) :
    (resetControllers P c).par = c.par := rfl
@[simp] theorem resetControllers_bw (P : Params N) (c : Context N) :
    (resetControllers P c).bw = c.bw := rfl
@[simp] theorem resetControllers_gain (P : Params N) (c : Context N) :
    (resetControllers P c).gain = c.gain := rfl
@[simp] theorem resetControllers_tun (P : Params N) (c : Context N) :
    (resetControllers P c).tun = c.tun := rfl
@[simp] theorem resetControllers_smp (P : Params N) (c : Context N) :
    (resetControllers P c).smp = c.smp := rfl
@[simp] theorem resetControllers_cal (P : Params N) (c : Context N) :
    (resetControllers P c).cal = c.cal := rfl
@[simp] theorem resetControllers_meas (P : Params N) (c : Context N) :
    (resetControllers P c).meas = c.meas := rfl
@[simp] theorem resetControllers_cc (P : Params N) (c : Context N) :
    (resetControllers P c).cc = CurrentCtrl.zeros (zero P) := rfl
@[simp] theorem resetControllers_md (P : Params N) (c : Context N) :
    (resetControllers P c).md = Modulator.zeros (zero P) := rfl
@[simp] theorem resetControllers_sl (P : Params N) (c : Context N) :
    (resetControllers P c).sl = c.sl := rfl
@[simp] theorem resetControllers_sc (P : Params N) (c : Context N) :
    (resetControllers P c).sc = SpeedCtrl.zeros (zero P) := rfl
@[simp] theorem resetControllers_hall (P : Params N) (c : Context N) :
    (resetControllers P c).hall = c.hall := rfl
@[simp] theorem resetControllers_foo (P : Params N) (c : Context N) :
    (resetControllers P c).foo = c.foo := rfl
@[simp] theorem resetControllers_eemf (P : Params N) (c : Context N) :
    (resetControllers P c).eemf = c.eemf := rfl
@[simp] theorem resetControllers_al (P : Params N) (c : Context N) :
    (resetControllers P c).al = c.al := rfl
@[simp] theorem resetControllers_flt (P : Params N) (c : Context N) :
    (resetControllers P c).flt = c.flt := rfl
@[simp] theorem resetControllers_sp_Theta_ol (P : Params N) (c : Context N) :
    (resetControllers P c).sp.Theta_ol = zero P := rfl
@[simp] theorem resetControllers_sp_Duty_test_a (P : Params N) (c : Context N) :
    (resetControllers P c).sp.Duty_test_a = zero P := rfl
@[simp] theorem resetControllers_sp_Duty_test_b (P : Params N) (c : Context N) :
    (resetControllers P c).sp.Duty_test_b = zero P := rfl
@[simp] theorem resetControllers_sp_Duty_test_c (P : Params N) (c : Context N) :
    (resetControllers P c).sp.Duty_test_c = zero P := rfl
@[simp] theorem resetControllers_sp_Wrpm_cmd (P : Params N) (c : Context N) :
    (resetControllers P c).sp.Wrpm_cmd = c.sp.Wrpm_cmd := rfl
@[simp] theorem resetControllers_sp_Torque_cmd (P : Params N) (c : Context N) :
    (resetControllers P c).sp.Torque_cmd = c.sp.Torque_cmd := rfl
@[simp] theorem resetControllers_sp_Id_ol_ref (P : Params N) (c : Context N) :
    (resetControllers P c).sp.Id_ol_ref = c.sp.Id_ol_ref := rfl
@[simp] theorem resetControllers_sp_Iq_ol_ref (P : Params N) (c : Context N) :
    (resetControllers P c).sp.Iq_ol_ref = c.sp.Iq_ol_ref := rfl
@[simp] theorem resetControllers_sp_Vd_ol_ref (P : Params N) (c : Context N) :
    (resetControllers P c).sp.Vd_ol_ref = c.sp.Vd_ol_ref := rfl
@[simp] theorem resetControllers_sp_Vq_ol_ref (P : Params N) (c : Context N) :
    (resetControllers P c).sp.Vq_ol_ref = c.sp.Vq_ol_ref := rfl
@[simp] theorem resetControllers_sp_W_ol (P : Params N) (c : Context N) :
    (resetControllers P c).sp.W_ol = c.sp.W_ol := rfl
@[simp] theorem resetControllers_sp_Hall_test_sel (P : Params N) (c : Context N) :
    (resetControllers P c).sp.Hall_test_sel = c.sp.Hall_test_sel := rfl
@[simp] theorem resetControllers_out (P : Params N) (c : Context N) :
    (resetControllers P c).out = c.out := rfl

end Sys2Proof.Machine
end

