-- ==== Sys2Proof/Laws/Frames.lean ====
section
/-! SUPPORT. What each function on the register file leaves alone: one lemma for each function, its
conjuncts the groups and, in a group that changes in part, the fields that stay. `simp` uses each conjunct
as a rewrite, so that no later proof unfolds a record update to see that a register is unchanged. -/

namespace Sys2Proof.Machine

variable {N : Type}

@[simp] theorem initParams_frame (P : Params N) (c : Context N) :
    (initParams P c).ctl = c.ctl ∧ (initParams P c).a = c.a ∧ (initParams P c).r = c.r ∧
    (initParams P c).bw = c.bw ∧ (initParams P c).gain = c.gain ∧ (initParams P c).tun = c.tun ∧
    (initParams P c).smp = c.smp ∧ (initParams P c).cal = c.cal ∧ (initParams P c).meas = c.meas ∧
    (initParams P c).cc = c.cc ∧ (initParams P c).md = c.md ∧ (initParams P c).sl = c.sl ∧
    (initParams P c).sc = c.sc ∧ (initParams P c).hall = c.hall ∧ (initParams P c).foo = c.foo ∧
    (initParams P c).eemf = c.eemf ∧ (initParams P c).al = c.al ∧ (initParams P c).flt = c.flt ∧
    (initParams P c).sp = c.sp ∧ (initParams P c).out = c.out :=
  ⟨rfl, rfl, rfl, rfl, rfl, rfl, rfl, rfl, rfl, rfl, rfl, rfl, rfl, rfl, rfl, rfl, rfl, rfl, rfl,
  rfl⟩

@[simp] theorem initCc_frame (P : Params N) (c : Context N) :
    (initCc P c).ctl = c.ctl ∧ (initCc P c).a = c.a ∧ (initCc P c).r = c.r ∧
    (initCc P c).par = c.par ∧ (initCc P c).bw.Wsc = c.bw.Wsc ∧ (initCc P c).bw.Wpll = c.bw.Wpll ∧
    (initCc P c).bw.Wc_eemf = c.bw.Wc_eemf ∧ (initCc P c).bw.Beta_foo = c.bw.Beta_foo ∧
    (initCc P c).gain.Kp_sc = c.gain.Kp_sc ∧ (initCc P c).gain.Ki_sc = c.gain.Ki_sc ∧
    (initCc P c).gain.Kp_pll = c.gain.Kp_pll ∧ (initCc P c).gain.Ki_pll = c.gain.Ki_pll ∧
    (initCc P c).gain.Kp_hall = c.gain.Kp_hall ∧ (initCc P c).gain.Ki_hall = c.gain.Ki_hall ∧
    (initCc P c).gain.K1 = c.gain.K1 ∧ (initCc P c).gain.K2 = c.gain.K2 ∧
    (initCc P c).gain.K3 = c.gain.K3 ∧ (initCc P c).gain.Kp_eemf = c.gain.Kp_eemf ∧
    (initCc P c).gain.Ki_eemf = c.gain.Ki_eemf ∧ (initCc P c).tun = c.tun ∧
    (initCc P c).smp = c.smp ∧ (initCc P c).cal = c.cal ∧ (initCc P c).meas = c.meas ∧
    (initCc P c).sl = c.sl ∧ (initCc P c).sc = c.sc ∧ (initCc P c).hall = c.hall ∧
    (initCc P c).foo = c.foo ∧ (initCc P c).eemf = c.eemf ∧ (initCc P c).al = c.al ∧
    (initCc P c).flt = c.flt ∧ (initCc P c).sp = c.sp ∧ (initCc P c).out.PWM_EN = c.out.PWM_EN :=
  ⟨rfl, rfl, rfl, rfl, rfl, rfl, rfl, rfl, rfl, rfl, rfl, rfl, rfl, rfl, rfl, rfl, rfl, rfl, rfl,
  rfl, rfl, rfl, rfl, rfl, rfl, rfl, rfl, rfl, rfl, rfl, rfl, rfl⟩

@[simp] theorem initSc_frame (P : Params N) (c : Context N) :
    (initSc P c).ctl = c.ctl ∧ (initSc P c).a = c.a ∧ (initSc P c).r = c.r ∧
    (initSc P c).par = c.par ∧ (initSc P c).bw.Wcc = c.bw.Wcc ∧ (initSc P c).bw.Wpll = c.bw.Wpll ∧
    (initSc P c).bw.Wc_eemf = c.bw.Wc_eemf ∧ (initSc P c).bw.Beta_foo = c.bw.Beta_foo ∧
    (initSc P c).gain.Kpd = c.gain.Kpd ∧ (initSc P c).gain.Kid = c.gain.Kid ∧
    (initSc P c).gain.Kpq = c.gain.Kpq ∧ (initSc P c).gain.Kiq = c.gain.Kiq ∧
    (initSc P c).gain.Kp_pll = c.gain.Kp_pll ∧ (initSc P c).gain.Ki_pll = c.gain.Ki_pll ∧
    (initSc P c).gain.Kp_hall = c.gain.Kp_hall ∧ (initSc P c).gain.Ki_hall = c.gain.Ki_hall ∧
    (initSc P c).gain.K1 = c.gain.K1 ∧ (initSc P c).gain.K2 = c.gain.K2 ∧
    (initSc P c).gain.K3 = c.gain.K3 ∧ (initSc P c).gain.Kp_eemf = c.gain.Kp_eemf ∧
    (initSc P c).gain.Ki_eemf = c.gain.Ki_eemf ∧ (initSc P c).tun = c.tun ∧
    (initSc P c).smp = c.smp ∧ (initSc P c).cal = c.cal ∧ (initSc P c).meas = c.meas ∧
    (initSc P c).cc = c.cc ∧ (initSc P c).md = c.md ∧ (initSc P c).sl = c.sl ∧
    (initSc P c).sc = c.sc ∧ (initSc P c).hall = c.hall ∧ (initSc P c).foo = c.foo ∧
    (initSc P c).eemf = c.eemf ∧ (initSc P c).al = c.al ∧ (initSc P c).flt = c.flt ∧
    (initSc P c).sp = c.sp ∧ (initSc P c).out = c.out :=
  ⟨rfl, rfl, rfl, rfl, rfl, rfl, rfl, rfl, rfl, rfl, rfl, rfl, rfl, rfl, rfl, rfl, rfl, rfl, rfl,
  rfl, rfl, rfl, rfl, rfl, rfl, rfl, rfl, rfl, rfl, rfl, rfl, rfl, rfl, rfl, rfl, rfl⟩

@[simp] theorem initPll_frame (P : Params N) (c : Context N) :
    (initPll P c).ctl = c.ctl ∧ (initPll P c).a = c.a ∧ (initPll P c).r = c.r ∧
    (initPll P c).par = c.par ∧ (initPll P c).bw.Wcc = c.bw.Wcc ∧
    (initPll P c).bw.Wsc = c.bw.Wsc ∧ (initPll P c).bw.Wc_eemf = c.bw.Wc_eemf ∧
    (initPll P c).bw.Beta_foo = c.bw.Beta_foo ∧ (initPll P c).gain.Kpd = c.gain.Kpd ∧
    (initPll P c).gain.Kid = c.gain.Kid ∧ (initPll P c).gain.Kpq = c.gain.Kpq ∧
    (initPll P c).gain.Kiq = c.gain.Kiq ∧ (initPll P c).gain.Kp_sc = c.gain.Kp_sc ∧
    (initPll P c).gain.Ki_sc = c.gain.Ki_sc ∧ (initPll P c).gain.K1 = c.gain.K1 ∧
    (initPll P c).gain.K2 = c.gain.K2 ∧ (initPll P c).gain.K3 = c.gain.K3 ∧
    (initPll P c).gain.Kp_eemf = c.gain.Kp_eemf ∧ (initPll P c).gain.Ki_eemf = c.gain.Ki_eemf ∧
    (initPll P c).tun = c.tun ∧ (initPll P c).smp = c.smp ∧ (initPll P c).cal = c.cal ∧
    (initPll P c).meas = c.meas ∧ (initPll P c).cc = c.cc ∧ (initPll P c).md = c.md ∧
    (initPll P c).sl = c.sl ∧ (initPll P c).sc = c.sc ∧ (initPll P c).hall = c.hall ∧
    (initPll P c).foo = c.foo ∧ (initPll P c).eemf = c.eemf ∧ (initPll P c).al = c.al ∧
    (initPll P c).flt = c.flt ∧ (initPll P c).sp = c.sp ∧ (initPll P c).out = c.out :=
  ⟨rfl, rfl, rfl, rfl, rfl, rfl, rfl, rfl, rfl, rfl, rfl, rfl, rfl, rfl, rfl, rfl, rfl, rfl, rfl,
  rfl, rfl, rfl, rfl, rfl, rfl, rfl, rfl, rfl, rfl, rfl, rfl, rfl, rfl, rfl⟩

@[simp] theorem initEemf_frame (P : Params N) (c : Context N) :
    (initEemf P c).ctl = c.ctl ∧ (initEemf P c).a = c.a ∧ (initEemf P c).r = c.r ∧
    (initEemf P c).par = c.par ∧ (initEemf P c).bw.Wcc = c.bw.Wcc ∧
    (initEemf P c).bw.Wsc = c.bw.Wsc ∧ (initEemf P c).bw.Wpll = c.bw.Wpll ∧
    (initEemf P c).bw.Beta_foo = c.bw.Beta_foo ∧ (initEemf P c).gain.Kpd = c.gain.Kpd ∧
    (initEemf P c).gain.Kid = c.gain.Kid ∧ (initEemf P c).gain.Kpq = c.gain.Kpq ∧
    (initEemf P c).gain.Kiq = c.gain.Kiq ∧ (initEemf P c).gain.Kp_sc = c.gain.Kp_sc ∧
    (initEemf P c).gain.Ki_sc = c.gain.Ki_sc ∧ (initEemf P c).gain.Kp_pll = c.gain.Kp_pll ∧
    (initEemf P c).gain.Ki_pll = c.gain.Ki_pll ∧ (initEemf P c).gain.Kp_hall = c.gain.Kp_hall ∧
    (initEemf P c).gain.Ki_hall = c.gain.Ki_hall ∧ (initEemf P c).gain.K1 = c.gain.K1 ∧
    (initEemf P c).gain.K2 = c.gain.K2 ∧ (initEemf P c).gain.K3 = c.gain.K3 ∧
    (initEemf P c).tun = c.tun ∧ (initEemf P c).smp = c.smp ∧ (initEemf P c).cal = c.cal ∧
    (initEemf P c).meas = c.meas ∧ (initEemf P c).cc = c.cc ∧ (initEemf P c).md = c.md ∧
    (initEemf P c).sl = c.sl ∧ (initEemf P c).sc = c.sc ∧ (initEemf P c).hall = c.hall ∧
    (initEemf P c).foo = c.foo ∧ (initEemf P c).eemf = c.eemf ∧ (initEemf P c).al = c.al ∧
    (initEemf P c).flt = c.flt ∧ (initEemf P c).sp = c.sp ∧ (initEemf P c).out = c.out :=
  ⟨rfl, rfl, rfl, rfl, rfl, rfl, rfl, rfl, rfl, rfl, rfl, rfl, rfl, rfl, rfl, rfl, rfl, rfl, rfl,
  rfl, rfl, rfl, rfl, rfl, rfl, rfl, rfl, rfl, rfl, rfl, rfl, rfl, rfl, rfl, rfl, rfl⟩

@[simp] theorem initFoo_frame (P : Params N) (c : Context N) :
    (initFoo P c).ctl = c.ctl ∧ (initFoo P c).a = c.a ∧ (initFoo P c).r = c.r ∧
    (initFoo P c).par = c.par ∧ (initFoo P c).bw.Wcc = c.bw.Wcc ∧
    (initFoo P c).bw.Wsc = c.bw.Wsc ∧ (initFoo P c).bw.Wpll = c.bw.Wpll ∧
    (initFoo P c).bw.Wc_eemf = c.bw.Wc_eemf ∧ (initFoo P c).gain.Kpd = c.gain.Kpd ∧
    (initFoo P c).gain.Kid = c.gain.Kid ∧ (initFoo P c).gain.Kpq = c.gain.Kpq ∧
    (initFoo P c).gain.Kiq = c.gain.Kiq ∧ (initFoo P c).gain.Kp_sc = c.gain.Kp_sc ∧
    (initFoo P c).gain.Ki_sc = c.gain.Ki_sc ∧ (initFoo P c).gain.Kp_pll = c.gain.Kp_pll ∧
    (initFoo P c).gain.Ki_pll = c.gain.Ki_pll ∧ (initFoo P c).gain.Kp_hall = c.gain.Kp_hall ∧
    (initFoo P c).gain.Ki_hall = c.gain.Ki_hall ∧ (initFoo P c).gain.Kp_eemf = c.gain.Kp_eemf ∧
    (initFoo P c).gain.Ki_eemf = c.gain.Ki_eemf ∧ (initFoo P c).tun = c.tun ∧
    (initFoo P c).smp = c.smp ∧ (initFoo P c).cal = c.cal ∧ (initFoo P c).meas = c.meas ∧
    (initFoo P c).cc = c.cc ∧ (initFoo P c).md = c.md ∧ (initFoo P c).sl = c.sl ∧
    (initFoo P c).sc = c.sc ∧ (initFoo P c).hall = c.hall ∧ (initFoo P c).foo = c.foo ∧
    (initFoo P c).eemf = c.eemf ∧ (initFoo P c).al = c.al ∧ (initFoo P c).flt = c.flt ∧
    (initFoo P c).sp = c.sp ∧ (initFoo P c).out = c.out :=
  ⟨rfl, rfl, rfl, rfl, rfl, rfl, rfl, rfl, rfl, rfl, rfl, rfl, rfl, rfl, rfl, rfl, rfl, rfl, rfl,
  rfl, rfl, rfl, rfl, rfl, rfl, rfl, rfl, rfl, rfl, rfl, rfl, rfl, rfl, rfl, rfl⟩

@[simp] theorem updateGains_frame (P : Params N) (c : Context N) :
    (updateGains P c).ctl = c.ctl ∧ (updateGains P c).a = c.a ∧ (updateGains P c).r = c.r ∧
    (updateGains P c).par = c.par ∧ (updateGains P c).bw = c.bw ∧
    (updateGains P c).gain.K1 = c.gain.K1 ∧ (updateGains P c).gain.K2 = c.gain.K2 ∧
    (updateGains P c).gain.K3 = c.gain.K3 ∧ (updateGains P c).gain.Kp_eemf = c.gain.Kp_eemf ∧
    (updateGains P c).gain.Ki_eemf = c.gain.Ki_eemf ∧ (updateGains P c).tun = c.tun ∧
    (updateGains P c).smp = c.smp ∧ (updateGains P c).cal = c.cal ∧
    (updateGains P c).meas = c.meas ∧ (updateGains P c).cc = c.cc ∧ (updateGains P c).md = c.md ∧
    (updateGains P c).sl = c.sl ∧ (updateGains P c).sc = c.sc ∧ (updateGains P c).hall = c.hall ∧
    (updateGains P c).foo = c.foo ∧ (updateGains P c).eemf = c.eemf ∧
    (updateGains P c).al = c.al ∧ (updateGains P c).flt = c.flt ∧ (updateGains P c).sp = c.sp ∧
    (updateGains P c).out = c.out :=
  ⟨rfl, rfl, rfl, rfl, rfl, rfl, rfl, rfl, rfl, rfl, rfl, rfl, rfl, rfl, rfl, rfl, rfl, rfl, rfl,
  rfl, rfl, rfl, rfl, rfl, rfl⟩

@[simp] theorem ccMeasure_frame (P : Params N) (i q theta : N) (c : Context N) :
    (ccMeasure P i q theta c).ctl = c.ctl ∧ (ccMeasure P i q theta c).a = c.a ∧
    (ccMeasure P i q theta c).r = c.r ∧ (ccMeasure P i q theta c).par = c.par ∧
    (ccMeasure P i q theta c).bw = c.bw ∧ (ccMeasure P i q theta c).gain = c.gain ∧
    (ccMeasure P i q theta c).tun = c.tun ∧ (ccMeasure P i q theta c).smp = c.smp ∧
    (ccMeasure P i q theta c).cal = c.cal ∧ (ccMeasure P i q theta c).meas = c.meas ∧
    (ccMeasure P i q theta c).cc.Idsr_err = c.cc.Idsr_err ∧
    (ccMeasure P i q theta c).cc.Vdsr_integ = c.cc.Vdsr_integ ∧
    (ccMeasure P i q theta c).cc.Vdsr_ref_unsat = c.cc.Vdsr_ref_unsat ∧
    (ccMeasure P i q theta c).cc.Vdsr_ref = c.cc.Vdsr_ref ∧
    (ccMeasure P i q theta c).cc.Vdsr_aw = c.cc.Vdsr_aw ∧
    (ccMeasure P i q theta c).cc.Iqsr_err = c.cc.Iqsr_err ∧
    (ccMeasure P i q theta c).cc.Vqsr_integ = c.cc.Vqsr_integ ∧
    (ccMeasure P i q theta c).cc.Vqsr_ref_unsat = c.cc.Vqsr_ref_unsat ∧
    (ccMeasure P i q theta c).cc.Vqsr_ref = c.cc.Vqsr_ref ∧
    (ccMeasure P i q theta c).cc.Vqsr_aw = c.cc.Vqsr_aw ∧
    (ccMeasure P i q theta c).md.Vdss_ref = c.md.Vdss_ref ∧
    (ccMeasure P i q theta c).md.Vqss_ref = c.md.Vqss_ref ∧
    (ccMeasure P i q theta c).md.Vas_ref = c.md.Vas_ref ∧
    (ccMeasure P i q theta c).md.Vbs_ref = c.md.Vbs_ref ∧
    (ccMeasure P i q theta c).md.Vcs_ref = c.md.Vcs_ref ∧
    (ccMeasure P i q theta c).md.Vsn = c.md.Vsn ∧
    (ccMeasure P i q theta c).md.Van_ref = c.md.Van_ref ∧
    (ccMeasure P i q theta c).md.Vbn_ref = c.md.Vbn_ref ∧
    (ccMeasure P i q theta c).md.Vcn_ref = c.md.Vcn_ref ∧
    (ccMeasure P i q theta c).md.Iqsr_ref_unsat = c.md.Iqsr_ref_unsat ∧
    (ccMeasure P i q theta c).sl = c.sl ∧ (ccMeasure P i q theta c).sc = c.sc ∧
    (ccMeasure P i q theta c).hall = c.hall ∧ (ccMeasure P i q theta c).foo = c.foo ∧
    (ccMeasure P i q theta c).eemf = c.eemf ∧ (ccMeasure P i q theta c).al = c.al ∧
    (ccMeasure P i q theta c).flt = c.flt ∧ (ccMeasure P i q theta c).sp = c.sp ∧
    (ccMeasure P i q theta c).out = c.out :=
  ⟨rfl, rfl, rfl, rfl, rfl, rfl, rfl, rfl, rfl, rfl, rfl, rfl, rfl, rfl, rfl, rfl, rfl, rfl, rfl,
  rfl, rfl, rfl, rfl, rfl, rfl, rfl, rfl, rfl, rfl, rfl, rfl, rfl, rfl, rfl, rfl, rfl, rfl, rfl,
  rfl⟩

@[simp] theorem ccUnsat_frame (P : Params N) (w : N) (c : Context N) :
    (ccUnsat P w c).ctl = c.ctl ∧ (ccUnsat P w c).a = c.a ∧ (ccUnsat P w c).r = c.r ∧
    (ccUnsat P w c).par = c.par ∧ (ccUnsat P w c).bw = c.bw ∧ (ccUnsat P w c).gain = c.gain ∧
    (ccUnsat P w c).tun = c.tun ∧ (ccUnsat P w c).smp = c.smp ∧ (ccUnsat P w c).cal = c.cal ∧
    (ccUnsat P w c).meas = c.meas ∧ (ccUnsat P w c).cc.Idsr_ref = c.cc.Idsr_ref ∧
    (ccUnsat P w c).cc.Idsr = c.cc.Idsr ∧ (ccUnsat P w c).cc.Vdsr_ref = c.cc.Vdsr_ref ∧
    (ccUnsat P w c).cc.Vdsr_aw = c.cc.Vdsr_aw ∧ (ccUnsat P w c).cc.Iqsr_ref = c.cc.Iqsr_ref ∧
    (ccUnsat P w c).cc.Iqsr = c.cc.Iqsr ∧ (ccUnsat P w c).cc.Vqsr_ref = c.cc.Vqsr_ref ∧
    (ccUnsat P w c).cc.Vqsr_aw = c.cc.Vqsr_aw ∧ (ccUnsat P w c).md = c.md ∧
    (ccUnsat P w c).sl = c.sl ∧ (ccUnsat P w c).sc = c.sc ∧ (ccUnsat P w c).hall = c.hall ∧
    (ccUnsat P w c).foo = c.foo ∧ (ccUnsat P w c).eemf = c.eemf ∧ (ccUnsat P w c).al = c.al ∧
    (ccUnsat P w c).flt = c.flt ∧ (ccUnsat P w c).sp = c.sp ∧ (ccUnsat P w c).out = c.out :=
  ⟨rfl, rfl, rfl, rfl, rfl, rfl, rfl, rfl, rfl, rfl, rfl, rfl, rfl, rfl, rfl, rfl, rfl, rfl, rfl,
  rfl, rfl, rfl, rfl, rfl, rfl, rfl, rfl, rfl⟩

@[simp] theorem ccClamp_frame (P : Params N) (fr : ClampSite → N) (c : Context N) :
    (ccClamp P fr c).ctl = c.ctl ∧ (ccClamp P fr c).a = c.a ∧ (ccClamp P fr c).r = c.r ∧
    (ccClamp P fr c).par = c.par ∧ (ccClamp P fr c).bw = c.bw ∧ (ccClamp P fr c).gain = c.gain ∧
    (ccClamp P fr c).tun = c.tun ∧ (ccClamp P fr c).smp = c.smp ∧ (ccClamp P fr c).cal = c.cal ∧
    (ccClamp P fr c).meas = c.meas ∧ (ccClamp P fr c).cc.Idsr_ref = c.cc.Idsr_ref ∧
    (ccClamp P fr c).cc.Idsr = c.cc.Idsr ∧ (ccClamp P fr c).cc.Idsr_err = c.cc.Idsr_err ∧
    (ccClamp P fr c).cc.Vdsr_integ = c.cc.Vdsr_integ ∧
    (ccClamp P fr c).cc.Vdsr_ref_unsat = c.cc.Vdsr_ref_unsat ∧
    (ccClamp P fr c).cc.Iqsr_ref = c.cc.Iqsr_ref ∧ (ccClamp P fr c).cc.Iqsr = c.cc.Iqsr ∧
    (ccClamp P fr c).cc.Iqsr_err = c.cc.Iqsr_err ∧
    (ccClamp P fr c).cc.Vqsr_integ = c.cc.Vqsr_integ ∧
    (ccClamp P fr c).cc.Vqsr_ref_unsat = c.cc.Vqsr_ref_unsat ∧ (ccClamp P fr c).md = c.md ∧
    (ccClamp P fr c).sl = c.sl ∧ (ccClamp P fr c).sc = c.sc ∧ (ccClamp P fr c).hall = c.hall ∧
    (ccClamp P fr c).foo = c.foo ∧ (ccClamp P fr c).eemf = c.eemf ∧ (ccClamp P fr c).al = c.al ∧
    (ccClamp P fr c).flt = c.flt ∧ (ccClamp P fr c).sp = c.sp ∧ (ccClamp P fr c).out = c.out :=
  ⟨rfl, rfl, rfl, rfl, rfl, rfl, rfl, rfl, rfl, rfl, rfl, rfl, rfl, rfl, rfl, rfl, rfl, rfl, rfl,
  rfl, rfl, rfl, rfl, rfl, rfl, rfl, rfl, rfl, rfl, rfl⟩

@[simp] theorem ccInverse_frame (P : Params N) (theta w : N) (c : Context N) :
    (ccInverse P theta w c).ctl = c.ctl ∧ (ccInverse P theta w c).a = c.a ∧
    (ccInverse P theta w c).r = c.r ∧ (ccInverse P theta w c).par = c.par ∧
    (ccInverse P theta w c).bw = c.bw ∧ (ccInverse P theta w c).gain = c.gain ∧
    (ccInverse P theta w c).tun = c.tun ∧ (ccInverse P theta w c).smp = c.smp ∧
    (ccInverse P theta w c).cal = c.cal ∧ (ccInverse P theta w c).meas = c.meas ∧
    (ccInverse P theta w c).cc = c.cc ∧ (ccInverse P theta w c).md.Idss = c.md.Idss ∧
    (ccInverse P theta w c).md.Iqss = c.md.Iqss ∧ (ccInverse P theta w c).md.Vsn = c.md.Vsn ∧
    (ccInverse P theta w c).md.Van_ref = c.md.Van_ref ∧
    (ccInverse P theta w c).md.Vbn_ref = c.md.Vbn_ref ∧
    (ccInverse P theta w c).md.Vcn_ref = c.md.Vcn_ref ∧
    (ccInverse P theta w c).md.Iqsr_ref_unsat = c.md.Iqsr_ref_unsat ∧
    (ccInverse P theta w c).sl = c.sl ∧ (ccInverse P theta w c).sc = c.sc ∧
    (ccInverse P theta w c).hall = c.hall ∧ (ccInverse P theta w c).foo = c.foo ∧
    (ccInverse P theta w c).eemf = c.eemf ∧ (ccInverse P theta w c).al = c.al ∧
    (ccInverse P theta w c).flt = c.flt ∧ (ccInverse P theta w c).sp = c.sp ∧
    (ccInverse P theta w c).out = c.out :=
  ⟨rfl, rfl, rfl, rfl, rfl, rfl, rfl, rfl, rfl, rfl, rfl, rfl, rfl, rfl, rfl, rfl, rfl, rfl, rfl,
  rfl, rfl, rfl, rfl, rfl, rfl, rfl, rfl⟩

@[simp] theorem ccOffset_frame (P : Params N) (comp : Bool) (theta w : N) (c : Context N) :
    (ccOffset P comp theta w c).ctl = c.ctl ∧ (ccOffset P comp theta w c).a = c.a ∧
    (ccOffset P comp theta w c).r = c.r ∧ (ccOffset P comp theta w c).par = c.par ∧
    (ccOffset P comp theta w c).bw = c.bw ∧ (ccOffset P comp theta w c).gain = c.gain ∧
    (ccOffset P comp theta w c).tun = c.tun ∧ (ccOffset P comp theta w c).smp = c.smp ∧
    (ccOffset P comp theta w c).cal = c.cal ∧ (ccOffset P comp theta w c).meas = c.meas ∧
    (ccOffset P comp theta w c).cc = c.cc ∧ (ccOffset P comp theta w c).md.Idss = c.md.Idss ∧
    (ccOffset P comp theta w c).md.Iqss = c.md.Iqss ∧
    (ccOffset P comp theta w c).md.Vdss_ref = c.md.Vdss_ref ∧
    (ccOffset P comp theta w c).md.Vqss_ref = c.md.Vqss_ref ∧
    (ccOffset P comp theta w c).md.Vas_ref = c.md.Vas_ref ∧
    (ccOffset P comp theta w c).md.Vbs_ref = c.md.Vbs_ref ∧
    (ccOffset P comp theta w c).md.Vcs_ref = c.md.Vcs_ref ∧
    (ccOffset P comp theta w c).md.Iqsr_ref_unsat = c.md.Iqsr_ref_unsat ∧
    (ccOffset P comp theta w c).sl = c.sl ∧ (ccOffset P comp theta w c).sc = c.sc ∧
    (ccOffset P comp theta w c).hall = c.hall ∧ (ccOffset P comp theta w c).foo = c.foo ∧
    (ccOffset P comp theta w c).eemf = c.eemf ∧ (ccOffset P comp theta w c).al = c.al ∧
    (ccOffset P comp theta w c).flt = c.flt ∧ (ccOffset P comp theta w c).sp = c.sp ∧
    (ccOffset P comp theta w c).out = c.out :=
  ⟨rfl, rfl, rfl, rfl, rfl, rfl, rfl, rfl, rfl, rfl, rfl, rfl, rfl, rfl, rfl, rfl, rfl, rfl, rfl,
  rfl, rfl, rfl, rfl, rfl, rfl, rfl, rfl, rfl⟩

@[simp] theorem ccDuties_frame (P : Params N) (fr : ClampSite → N) (c : Context N) :
    (ccDuties P fr c).ctl = c.ctl ∧ (ccDuties P fr c).a = c.a ∧ (ccDuties P fr c).r = c.r ∧
    (ccDuties P fr c).par = c.par ∧ (ccDuties P fr c).bw = c.bw ∧
    (ccDuties P fr c).gain = c.gain ∧ (ccDuties P fr c).tun = c.tun ∧
    (ccDuties P fr c).smp = c.smp ∧ (ccDuties P fr c).cal = c.cal ∧
    (ccDuties P fr c).meas = c.meas ∧ (ccDuties P fr c).cc = c.cc ∧ (ccDuties P fr c).md = c.md ∧
    (ccDuties P fr c).sl = c.sl ∧ (ccDuties P fr c).sc = c.sc ∧ (ccDuties P fr c).hall = c.hall ∧
    (ccDuties P fr c).foo = c.foo ∧ (ccDuties P fr c).eemf = c.eemf ∧
    (ccDuties P fr c).al = c.al ∧ (ccDuties P fr c).flt = c.flt ∧ (ccDuties P fr c).sp = c.sp ∧
    (ccDuties P fr c).out.PWM_EN = c.out.PWM_EN :=
  ⟨rfl, rfl, rfl, rfl, rfl, rfl, rfl, rfl, rfl, rfl, rfl, rfl, rfl, rfl, rfl, rfl, rfl, rfl, rfl,
  rfl, rfl⟩

@[simp] theorem ccModulate_frame (P : Params N) (fr : ClampSite → N) (comp : Bool) (theta w : N) (c : Context N) :
    (ccModulate P fr comp theta w c).ctl = c.ctl ∧ (ccModulate P fr comp theta w c).a = c.a ∧
    (ccModulate P fr comp theta w c).r = c.r ∧ (ccModulate P fr comp theta w c).par = c.par ∧
    (ccModulate P fr comp theta w c).bw = c.bw ∧ (ccModulate P fr comp theta w c).gain = c.gain ∧
    (ccModulate P fr comp theta w c).tun = c.tun ∧ (ccModulate P fr comp theta w c).smp = c.smp ∧
    (ccModulate P fr comp theta w c).cal = c.cal ∧
    (ccModulate P fr comp theta w c).meas = c.meas ∧ (ccModulate P fr comp theta w c).cc = c.cc ∧
    (ccModulate P fr comp theta w c).md.Idss = c.md.Idss ∧
    (ccModulate P fr comp theta w c).md.Iqss = c.md.Iqss ∧
    (ccModulate P fr comp theta w c).md.Iqsr_ref_unsat = c.md.Iqsr_ref_unsat ∧
    (ccModulate P fr comp theta w c).sl = c.sl ∧ (ccModulate P fr comp theta w c).sc = c.sc ∧
    (ccModulate P fr comp theta w c).hall = c.hall ∧
    (ccModulate P fr comp theta w c).foo = c.foo ∧
    (ccModulate P fr comp theta w c).eemf = c.eemf ∧ (ccModulate P fr comp theta w c).al = c.al ∧
    (ccModulate P fr comp theta w c).flt = c.flt ∧ (ccModulate P fr comp theta w c).sp = c.sp ∧
    (ccModulate P fr comp theta w c).out.PWM_EN = c.out.PWM_EN :=
  ⟨rfl, rfl, rfl, rfl, rfl, rfl, rfl, rfl, rfl, rfl, rfl, rfl, rfl, rfl, rfl, rfl, rfl, rfl, rfl,
  rfl, rfl, rfl, rfl⟩

@[simp] theorem scStep_frame (P : Params N) (fr : ClampSite → N) (cmd wrm : N) (c : Context N) :
    (scStep P fr cmd wrm c).ctl = c.ctl ∧ (scStep P fr cmd wrm c).a = c.a ∧
    (scStep P fr cmd wrm c).r = c.r ∧ (scStep P fr cmd wrm c).par = c.par ∧
    (scStep P fr cmd wrm c).bw = c.bw ∧ (scStep P fr cmd wrm c).gain = c.gain ∧
    (scStep P fr cmd wrm c).tun = c.tun ∧ (scStep P fr cmd wrm c).smp = c.smp ∧
    (scStep P fr cmd wrm c).cal = c.cal ∧ (scStep P fr cmd wrm c).meas = c.meas ∧
    (scStep P fr cmd wrm c).cc = c.cc ∧ (scStep P fr cmd wrm c).md = c.md ∧
    (scStep P fr cmd wrm c).sl = c.sl ∧ (scStep P fr cmd wrm c).hall = c.hall ∧
    (scStep P fr cmd wrm c).foo = c.foo ∧ (scStep P fr cmd wrm c).eemf = c.eemf ∧
    (scStep P fr cmd wrm c).al = c.al ∧ (scStep P fr cmd wrm c).flt = c.flt ∧
    (scStep P fr cmd wrm c).sp = c.sp ∧ (scStep P fr cmd wrm c).out = c.out :=
  ⟨rfl, rfl, rfl, rfl, rfl, rfl, rfl, rfl, rfl, rfl, rfl, rfl, rfl, rfl, rfl, rfl, rfl, rfl, rfl,
  rfl⟩

@[simp] theorem torqueCtrl_frame (P : Params N) (cmd : N) (c : Context N) :
    (torqueCtrl P cmd c).ctl = c.ctl ∧ (torqueCtrl P cmd c).a = c.a ∧
    (torqueCtrl P cmd c).r = c.r ∧ (torqueCtrl P cmd c).par = c.par ∧
    (torqueCtrl P cmd c).bw = c.bw ∧ (torqueCtrl P cmd c).gain = c.gain ∧
    (torqueCtrl P cmd c).tun = c.tun ∧ (torqueCtrl P cmd c).smp = c.smp ∧
    (torqueCtrl P cmd c).cal = c.cal ∧ (torqueCtrl P cmd c).meas = c.meas ∧
    (torqueCtrl P cmd c).cc = c.cc ∧ (torqueCtrl P cmd c).md = c.md ∧
    (torqueCtrl P cmd c).sl = c.sl ∧ (torqueCtrl P cmd c).sc.Wrm_ref = c.sc.Wrm_ref ∧
    (torqueCtrl P cmd c).sc.Wrm = c.sc.Wrm ∧ (torqueCtrl P cmd c).sc.Wrm_err = c.sc.Wrm_err ∧
    (torqueCtrl P cmd c).sc.Te_integ = c.sc.Te_integ ∧
    (torqueCtrl P cmd c).sc.Te_ref_unsat = c.sc.Te_ref_unsat ∧
    (torqueCtrl P cmd c).sc.Te_aw = c.sc.Te_aw ∧ (torqueCtrl P cmd c).hall = c.hall ∧
    (torqueCtrl P cmd c).foo = c.foo ∧ (torqueCtrl P cmd c).eemf = c.eemf ∧
    (torqueCtrl P cmd c).al = c.al ∧ (torqueCtrl P cmd c).flt = c.flt ∧
    (torqueCtrl P cmd c).sp = c.sp ∧ (torqueCtrl P cmd c).out = c.out :=
  ⟨rfl, rfl, rfl, rfl, rfl, rfl, rfl, rfl, rfl, rfl, rfl, rfl, rfl, rfl, rfl, rfl, rfl, rfl, rfl,
  rfl, rfl, rfl, rfl, rfl, rfl, rfl⟩

@[simp] theorem torqueToCurrent_frame (P : Params N) (c : Context N) :
    (torqueToCurrent P c).ctl = c.ctl ∧ (torqueToCurrent P c).a = c.a ∧
    (torqueToCurrent P c).r = c.r ∧ (torqueToCurrent P c).par = c.par ∧
    (torqueToCurrent P c).bw = c.bw ∧ (torqueToCurrent P c).gain = c.gain ∧
    (torqueToCurrent P c).tun = c.tun ∧ (torqueToCurrent P c).smp = c.smp ∧
    (torqueToCurrent P c).cal = c.cal ∧ (torqueToCurrent P c).meas = c.meas ∧
    (torqueToCurrent P c).cc = c.cc ∧ (torqueToCurrent P c).md.Idss = c.md.Idss ∧
    (torqueToCurrent P c).md.Iqss = c.md.Iqss ∧
    (torqueToCurrent P c).md.Vdss_ref = c.md.Vdss_ref ∧
    (torqueToCurrent P c).md.Vqss_ref = c.md.Vqss_ref ∧
    (torqueToCurrent P c).md.Vas_ref = c.md.Vas_ref ∧
    (torqueToCurrent P c).md.Vbs_ref = c.md.Vbs_ref ∧
    (torqueToCurrent P c).md.Vcs_ref = c.md.Vcs_ref ∧ (torqueToCurrent P c).md.Vsn = c.md.Vsn ∧
    (torqueToCurrent P c).md.Van_ref = c.md.Van_ref ∧
    (torqueToCurrent P c).md.Vbn_ref = c.md.Vbn_ref ∧
    (torqueToCurrent P c).md.Vcn_ref = c.md.Vcn_ref ∧ (torqueToCurrent P c).sl = c.sl ∧
    (torqueToCurrent P c).sc = c.sc ∧ (torqueToCurrent P c).hall = c.hall ∧
    (torqueToCurrent P c).foo = c.foo ∧ (torqueToCurrent P c).eemf = c.eemf ∧
    (torqueToCurrent P c).al = c.al ∧ (torqueToCurrent P c).flt = c.flt ∧
    (torqueToCurrent P c).sp = c.sp ∧ (torqueToCurrent P c).out = c.out :=
  ⟨rfl, rfl, rfl, rfl, rfl, rfl, rfl, rfl, rfl, rfl, rfl, rfl, rfl, rfl, rfl, rfl, rfl, rfl, rfl,
  rfl, rfl, rfl, rfl, rfl, rfl, rfl, rfl, rfl, rfl, rfl, rfl⟩

@[simp] theorem hallStep_frame (P : Params N) (c : Context N) :
    (hallStep P c).ctl = c.ctl ∧ (hallStep P c).a = c.a ∧ (hallStep P c).r = c.r ∧
    (hallStep P c).par = c.par ∧ (hallStep P c).bw = c.bw ∧ (hallStep P c).gain = c.gain ∧
    (hallStep P c).tun = c.tun ∧ (hallStep P c).smp = c.smp ∧ (hallStep P c).cal = c.cal ∧
    (hallStep P c).meas = c.meas ∧ (hallStep P c).cc = c.cc ∧ (hallStep P c).md = c.md ∧
    (hallStep P c).sl = c.sl ∧ (hallStep P c).sc = c.sc ∧ (hallStep P c).foo = c.foo ∧
    (hallStep P c).eemf = c.eemf ∧ (hallStep P c).al = c.al ∧ (hallStep P c).flt = c.flt ∧
    (hallStep P c).sp = c.sp ∧ (hallStep P c).out = c.out :=
  ⟨rfl, rfl, rfl, rfl, rfl, rfl, rfl, rfl, rfl, rfl, rfl, rfl, rfl, rfl, rfl, rfl, rfl, rfl, rfl,
  rfl⟩

@[simp] theorem fooStep_frame (P : Params N) (v : FooVariant) (err : N) (c : Context N) :
    (fooStep P v err c).ctl = c.ctl ∧ (fooStep P v err c).a = c.a ∧ (fooStep P v err c).r = c.r ∧
    (fooStep P v err c).par = c.par ∧ (fooStep P v err c).bw = c.bw ∧
    (fooStep P v err c).gain = c.gain ∧ (fooStep P v err c).tun = c.tun ∧
    (fooStep P v err c).smp = c.smp ∧ (fooStep P v err c).cal = c.cal ∧
    (fooStep P v err c).meas = c.meas ∧ (fooStep P v err c).cc = c.cc ∧
    (fooStep P v err c).md = c.md ∧ (fooStep P v err c).sl = c.sl ∧
    (fooStep P v err c).sc = c.sc ∧ (fooStep P v err c).hall = c.hall ∧
    (fooStep P v err c).eemf = c.eemf ∧ (fooStep P v err c).al = c.al ∧
    (fooStep P v err c).flt = c.flt ∧ (fooStep P v err c).sp = c.sp ∧
    (fooStep P v err c).out = c.out :=
  ⟨rfl, rfl, rfl, rfl, rfl, rfl, rfl, rfl, rfl, rfl, rfl, rfl, rfl, rfl, rfl, rfl, rfl, rfl, rfl,
  rfl⟩

@[simp] theorem eemfStep_frame (P : Params N) (theta w : N) (c : Context N) :
    (eemfStep P theta w c).ctl = c.ctl ∧ (eemfStep P theta w c).a = c.a ∧
    (eemfStep P theta w c).r = c.r ∧ (eemfStep P theta w c).par = c.par ∧
    (eemfStep P theta w c).bw = c.bw ∧ (eemfStep P theta w c).gain.Kpd = c.gain.Kpd ∧
    (eemfStep P theta w c).gain.Kid = c.gain.Kid ∧ (eemfStep P theta w c).gain.Kpq = c.gain.Kpq ∧
    (eemfStep P theta w c).gain.Kiq = c.gain.Kiq ∧
    (eemfStep P theta w c).gain.Kp_sc = c.gain.Kp_sc ∧
    (eemfStep P theta w c).gain.Ki_sc = c.gain.Ki_sc ∧
    (eemfStep P theta w c).gain.Kp_pll = c.gain.Kp_pll ∧
    (eemfStep P theta w c).gain.Ki_pll = c.gain.Ki_pll ∧
    (eemfStep P theta w c).gain.Kp_hall = c.gain.Kp_hall ∧
    (eemfStep P theta w c).gain.Ki_hall = c.gain.Ki_hall ∧
    (eemfStep P theta w c).gain.K1 = c.gain.K1 ∧ (eemfStep P theta w c).gain.K2 = c.gain.K2 ∧
    (eemfStep P theta w c).gain.K3 = c.gain.K3 ∧ (eemfStep P theta w c).tun = c.tun ∧
    (eemfStep P theta w c).smp = c.smp ∧ (eemfStep P theta w c).cal = c.cal ∧
    (eemfStep P theta w c).meas = c.meas ∧ (eemfStep P theta w c).cc = c.cc ∧
    (eemfStep P theta w c).md = c.md ∧ (eemfStep P theta w c).sl = c.sl ∧
    (eemfStep P theta w c).sc = c.sc ∧ (eemfStep P theta w c).hall = c.hall ∧
    (eemfStep P theta w c).foo = c.foo ∧ (eemfStep P theta w c).al = c.al ∧
    (eemfStep P theta w c).flt = c.flt ∧ (eemfStep P theta w c).sp = c.sp ∧
    (eemfStep P theta w c).out = c.out :=
  ⟨rfl, rfl, rfl, rfl, rfl, rfl, rfl, rfl, rfl, rfl, rfl, rfl, rfl, rfl, rfl, rfl, rfl, rfl, rfl,
  rfl, rfl, rfl, rfl, rfl, rfl, rfl, rfl, rfl, rfl, rfl, rfl, rfl⟩

@[simp] theorem alignInit_frame (P : Params N) (c : Context N) :
    (alignInit P c).ctl = c.ctl ∧ (alignInit P c).a = c.a ∧ (alignInit P c).r = c.r ∧
    (alignInit P c).par = c.par ∧ (alignInit P c).bw = c.bw ∧ (alignInit P c).gain = c.gain ∧
    (alignInit P c).tun = c.tun ∧ (alignInit P c).smp = c.smp ∧ (alignInit P c).cal = c.cal ∧
    (alignInit P c).meas = c.meas ∧ (alignInit P c).cc.Idsr = c.cc.Idsr ∧
    (alignInit P c).cc.Idsr_err = c.cc.Idsr_err ∧
    (alignInit P c).cc.Vdsr_integ = c.cc.Vdsr_integ ∧
    (alignInit P c).cc.Vdsr_ref_unsat = c.cc.Vdsr_ref_unsat ∧
    (alignInit P c).cc.Vdsr_ref = c.cc.Vdsr_ref ∧ (alignInit P c).cc.Vdsr_aw = c.cc.Vdsr_aw ∧
    (alignInit P c).cc.Iqsr_ref = c.cc.Iqsr_ref ∧ (alignInit P c).cc.Iqsr = c.cc.Iqsr ∧
    (alignInit P c).cc.Iqsr_err = c.cc.Iqsr_err ∧
    (alignInit P c).cc.Vqsr_integ = c.cc.Vqsr_integ ∧
    (alignInit P c).cc.Vqsr_ref_unsat = c.cc.Vqsr_ref_unsat ∧
    (alignInit P c).cc.Vqsr_ref = c.cc.Vqsr_ref ∧ (alignInit P c).cc.Vqsr_aw = c.cc.Vqsr_aw ∧
    (alignInit P c).md = c.md ∧ (alignInit P c).sc = c.sc ∧ (alignInit P c).hall = c.hall ∧
    (alignInit P c).foo = c.foo ∧ (alignInit P c).eemf = c.eemf ∧ (alignInit P c).flt = c.flt ∧
    (alignInit P c).sp = c.sp ∧ (alignInit P c).out = c.out :=
  ⟨rfl, rfl, rfl, rfl, rfl, rfl, rfl, rfl, rfl, rfl, rfl, rfl, rfl, rfl, rfl, rfl, rfl, rfl, rfl,
  rfl, rfl, rfl, rfl, rfl, rfl, rfl, rfl, rfl, rfl, rfl, rfl⟩

@[simp] theorem alignDone_frame (c : Context N) :
    (alignDone c).ctl.CMD = c.ctl.CMD ∧ (alignDone c).ctl.CMD_ILLEGAL = c.ctl.CMD_ILLEGAL ∧
    (alignDone c).ctl.CYCLE_CNT = c.ctl.CYCLE_CNT ∧ (alignDone c).a = c.a ∧
    (alignDone c).r = c.r ∧ (alignDone c).par = c.par ∧ (alignDone c).bw = c.bw ∧
    (alignDone c).gain = c.gain ∧ (alignDone c).tun = c.tun ∧ (alignDone c).smp = c.smp ∧
    (alignDone c).cal = c.cal ∧ (alignDone c).meas = c.meas ∧ (alignDone c).cc = c.cc ∧
    (alignDone c).md = c.md ∧ (alignDone c).sl = c.sl ∧ (alignDone c).sc = c.sc ∧
    (alignDone c).hall = c.hall ∧ (alignDone c).foo = c.foo ∧ (alignDone c).eemf = c.eemf ∧
    (alignDone c).al.Align_time = c.al.Align_time ∧ (alignDone c).flt = c.flt ∧
    (alignDone c).sp = c.sp ∧ (alignDone c).out = c.out :=
  ⟨rfl, rfl, rfl, rfl, rfl, rfl, rfl, rfl, rfl, rfl, rfl, rfl, rfl, rfl, rfl, rfl, rfl, rfl, rfl,
  rfl, rfl, rfl, rfl⟩

@[simp] theorem alignTail_frame (P : Params N) (st : BitVec 2) (c : Context N) :
    (alignTail P st c).ctl.CMD = c.ctl.CMD ∧
    (alignTail P st c).ctl.CMD_ILLEGAL = c.ctl.CMD_ILLEGAL ∧
    (alignTail P st c).ctl.CYCLE_CNT = c.ctl.CYCLE_CNT ∧ (alignTail P st c).a = c.a ∧
    (alignTail P st c).r = c.r ∧ (alignTail P st c).par = c.par ∧ (alignTail P st c).bw = c.bw ∧
    (alignTail P st c).gain = c.gain ∧ (alignTail P st c).tun = c.tun ∧
    (alignTail P st c).smp = c.smp ∧ (alignTail P st c).cal = c.cal ∧
    (alignTail P st c).meas = c.meas ∧ (alignTail P st c).cc = c.cc ∧
    (alignTail P st c).md = c.md ∧ (alignTail P st c).sl = c.sl ∧ (alignTail P st c).sc = c.sc ∧
    (alignTail P st c).hall = c.hall ∧ (alignTail P st c).foo = c.foo ∧
    (alignTail P st c).eemf = c.eemf ∧ (alignTail P st c).flt = c.flt ∧
    (alignTail P st c).sp = c.sp ∧ (alignTail P st c).out = c.out := by
  unfold alignTail
  dsimp only
  repeat' apply And.intro
  all_goals split
  all_goals first | rfl | (split <;> rfl)

@[simp] theorem swFaultCheck_frame (P : Params N) (c : Context N) :
    (swFaultCheck P c).ctl.CMD = c.ctl.CMD ∧
    (swFaultCheck P c).ctl.CMD_ILLEGAL = c.ctl.CMD_ILLEGAL ∧
    (swFaultCheck P c).ctl.CYCLE_CNT = c.ctl.CYCLE_CNT ∧ (swFaultCheck P c).a = c.a ∧
    (swFaultCheck P c).r = c.r ∧ (swFaultCheck P c).par = c.par ∧ (swFaultCheck P c).bw = c.bw ∧
    (swFaultCheck P c).gain = c.gain ∧ (swFaultCheck P c).tun = c.tun ∧
    (swFaultCheck P c).smp = c.smp ∧ (swFaultCheck P c).cal = c.cal ∧
    (swFaultCheck P c).meas = c.meas ∧ (swFaultCheck P c).cc = c.cc ∧
    (swFaultCheck P c).md = c.md ∧ (swFaultCheck P c).sl = c.sl ∧ (swFaultCheck P c).sc = c.sc ∧
    (swFaultCheck P c).hall = c.hall ∧ (swFaultCheck P c).foo = c.foo ∧
    (swFaultCheck P c).eemf = c.eemf ∧ (swFaultCheck P c).al = c.al ∧ (swFaultCheck P c).sp = c.sp := by
  unfold swFaultCheck
  repeat' apply And.intro
  all_goals (split <;> rfl)

@[simp] theorem countCycle_frame (c : Context N) :
    (countCycle c).ctl.CMD = c.ctl.CMD ∧ (countCycle c).ctl.CMD_ILLEGAL = c.ctl.CMD_ILLEGAL ∧
    (countCycle c).ctl.MODE = c.ctl.MODE ∧ (countCycle c).a = c.a ∧ (countCycle c).r = c.r ∧
    (countCycle c).par = c.par ∧ (countCycle c).bw = c.bw ∧ (countCycle c).gain = c.gain ∧
    (countCycle c).tun = c.tun ∧ (countCycle c).smp = c.smp ∧ (countCycle c).cal = c.cal ∧
    (countCycle c).meas = c.meas ∧ (countCycle c).cc = c.cc ∧ (countCycle c).md = c.md ∧
    (countCycle c).sl = c.sl ∧ (countCycle c).sc = c.sc ∧ (countCycle c).hall = c.hall ∧
    (countCycle c).foo = c.foo ∧ (countCycle c).eemf = c.eemf ∧ (countCycle c).al = c.al ∧
    (countCycle c).flt = c.flt ∧ (countCycle c).sp = c.sp ∧ (countCycle c).out = c.out :=
  ⟨rfl, rfl, rfl, rfl, rfl, rfl, rfl, rfl, rfl, rfl, rfl, rfl, rfl, rfl, rfl, rfl, rfl, rfl, rfl,
  rfl, rfl, rfl, rfl⟩

@[simp] theorem convVoltage_frame (P : Params N) (l : Locals) (c : Context N) :
    (convVoltage P l c).ctl = c.ctl ∧ (convVoltage P l c).a = c.a ∧ (convVoltage P l c).r = c.r ∧
    (convVoltage P l c).par = c.par ∧ (convVoltage P l c).bw = c.bw ∧
    (convVoltage P l c).gain = c.gain ∧ (convVoltage P l c).tun = c.tun ∧
    (convVoltage P l c).smp = c.smp ∧ (convVoltage P l c).cal = c.cal ∧
    (convVoltage P l c).meas.Ia = c.meas.Ia ∧ (convVoltage P l c).meas.Ib = c.meas.Ib ∧
    (convVoltage P l c).meas.Ic = c.meas.Ic ∧ (convVoltage P l c).meas.Idc = c.meas.Idc ∧
    (convVoltage P l c).cc = c.cc ∧ (convVoltage P l c).md = c.md ∧
    (convVoltage P l c).sl = c.sl ∧ (convVoltage P l c).sc = c.sc ∧
    (convVoltage P l c).hall = c.hall ∧ (convVoltage P l c).foo = c.foo ∧
    (convVoltage P l c).eemf = c.eemf ∧ (convVoltage P l c).al = c.al ∧
    (convVoltage P l c).flt = c.flt ∧ (convVoltage P l c).sp = c.sp ∧
    (convVoltage P l c).out = c.out :=
  ⟨rfl, rfl, rfl, rfl, rfl, rfl, rfl, rfl, rfl, rfl, rfl, rfl, rfl, rfl, rfl, rfl, rfl, rfl, rfl,
  rfl, rfl, rfl, rfl, rfl⟩

@[simp] theorem sensorless_frame (P : Params N) (m : Word) (c : Context N) :
    (sensorless P m c).ctl = c.ctl ∧ (sensorless P m c).a = c.a ∧ (sensorless P m c).r = c.r ∧
    (sensorless P m c).par = c.par ∧ (sensorless P m c).bw = c.bw ∧
    (sensorless P m c).gain.Kpd = c.gain.Kpd ∧ (sensorless P m c).gain.Kid = c.gain.Kid ∧
    (sensorless P m c).gain.Kpq = c.gain.Kpq ∧ (sensorless P m c).gain.Kiq = c.gain.Kiq ∧
    (sensorless P m c).gain.Kp_sc = c.gain.Kp_sc ∧ (sensorless P m c).gain.Ki_sc = c.gain.Ki_sc ∧
    (sensorless P m c).gain.Kp_pll = c.gain.Kp_pll ∧
    (sensorless P m c).gain.Ki_pll = c.gain.Ki_pll ∧
    (sensorless P m c).gain.Kp_hall = c.gain.Kp_hall ∧
    (sensorless P m c).gain.Ki_hall = c.gain.Ki_hall ∧ (sensorless P m c).gain.K1 = c.gain.K1 ∧
    (sensorless P m c).gain.K2 = c.gain.K2 ∧ (sensorless P m c).gain.K3 = c.gain.K3 ∧
    (sensorless P m c).tun = c.tun ∧ (sensorless P m c).smp = c.smp ∧
    (sensorless P m c).cal = c.cal ∧ (sensorless P m c).meas = c.meas ∧
    (sensorless P m c).cc = c.cc ∧ (sensorless P m c).md = c.md ∧ (sensorless P m c).sl = c.sl ∧
    (sensorless P m c).sc = c.sc ∧ (sensorless P m c).hall = c.hall ∧
    (sensorless P m c).al = c.al ∧ (sensorless P m c).flt = c.flt ∧ (sensorless P m c).sp = c.sp ∧
    (sensorless P m c).out = c.out := by
  unfold sensorless
  repeat' apply And.intro
  all_goals (split <;> rfl)

@[simp] theorem selectSource_frame (P : Params N) (b : Behaviour) (m : Word) (c : Context N) :
    (selectSource P b m c).ctl = c.ctl ∧ (selectSource P b m c).a = c.a ∧
    (selectSource P b m c).r = c.r ∧ (selectSource P b m c).par = c.par ∧
    (selectSource P b m c).bw = c.bw ∧ (selectSource P b m c).gain = c.gain ∧
    (selectSource P b m c).tun = c.tun ∧ (selectSource P b m c).smp = c.smp ∧
    (selectSource P b m c).cal = c.cal ∧ (selectSource P b m c).meas = c.meas ∧
    (selectSource P b m c).cc = c.cc ∧ (selectSource P b m c).md = c.md ∧
    (selectSource P b m c).sc = c.sc ∧ (selectSource P b m c).hall = c.hall ∧
    (selectSource P b m c).foo = c.foo ∧ (selectSource P b m c).eemf = c.eemf ∧
    (selectSource P b m c).al = c.al ∧ (selectSource P b m c).flt = c.flt ∧
    (selectSource P b m c).sp.Wrpm_cmd = c.sp.Wrpm_cmd ∧
    (selectSource P b m c).sp.Torque_cmd = c.sp.Torque_cmd ∧
    (selectSource P b m c).sp.Id_ol_ref = c.sp.Id_ol_ref ∧
    (selectSource P b m c).sp.Iq_ol_ref = c.sp.Iq_ol_ref ∧
    (selectSource P b m c).sp.Vd_ol_ref = c.sp.Vd_ol_ref ∧
    (selectSource P b m c).sp.Vq_ol_ref = c.sp.Vq_ol_ref ∧
    (selectSource P b m c).sp.W_ol = c.sp.W_ol ∧
    (selectSource P b m c).sp.Duty_test_a = c.sp.Duty_test_a ∧
    (selectSource P b m c).sp.Duty_test_b = c.sp.Duty_test_b ∧
    (selectSource P b m c).sp.Duty_test_c = c.sp.Duty_test_c ∧
    (selectSource P b m c).sp.Hall_test_sel = c.sp.Hall_test_sel ∧
    (selectSource P b m c).out = c.out := by
  unfold selectSource
  repeat' apply And.intro
  all_goals cases b <;> first | rfl | (dsimp only; split <;> rfl)

@[simp] theorem behaveHallTest_frame (P : Params N) (c : Context N) :
    (behaveHallTest P c).ctl = c.ctl ∧ (behaveHallTest P c).a = c.a ∧
    (behaveHallTest P c).r = c.r ∧ (behaveHallTest P c).par = c.par ∧
    (behaveHallTest P c).bw = c.bw ∧ (behaveHallTest P c).gain = c.gain ∧
    (behaveHallTest P c).tun = c.tun ∧ (behaveHallTest P c).smp = c.smp ∧
    (behaveHallTest P c).cal = c.cal ∧ (behaveHallTest P c).meas = c.meas ∧
    (behaveHallTest P c).cc = c.cc ∧ (behaveHallTest P c).md = c.md ∧
    (behaveHallTest P c).sl = c.sl ∧ (behaveHallTest P c).sc = c.sc ∧
    (behaveHallTest P c).hall = c.hall ∧ (behaveHallTest P c).foo = c.foo ∧
    (behaveHallTest P c).eemf = c.eemf ∧ (behaveHallTest P c).al = c.al ∧
    (behaveHallTest P c).flt = c.flt ∧ (behaveHallTest P c).sp = c.sp := by
  unfold behaveHallTest
  repeat' apply And.intro
  all_goals (split <;> rfl)

@[simp] theorem behaveDutyTest_frame (P : Params N) (fr : ClampSite → N) (c : Context N) :
    (behaveDutyTest P fr c).ctl = c.ctl ∧ (behaveDutyTest P fr c).a = c.a ∧
    (behaveDutyTest P fr c).r = c.r ∧ (behaveDutyTest P fr c).par = c.par ∧
    (behaveDutyTest P fr c).bw = c.bw ∧ (behaveDutyTest P fr c).gain = c.gain ∧
    (behaveDutyTest P fr c).tun = c.tun ∧ (behaveDutyTest P fr c).smp = c.smp ∧
    (behaveDutyTest P fr c).cal = c.cal ∧ (behaveDutyTest P fr c).meas = c.meas ∧
    (behaveDutyTest P fr c).cc = c.cc ∧ (behaveDutyTest P fr c).md = c.md ∧
    (behaveDutyTest P fr c).sl = c.sl ∧ (behaveDutyTest P fr c).sc = c.sc ∧
    (behaveDutyTest P fr c).hall = c.hall ∧ (behaveDutyTest P fr c).foo = c.foo ∧
    (behaveDutyTest P fr c).eemf = c.eemf ∧ (behaveDutyTest P fr c).al = c.al ∧
    (behaveDutyTest P fr c).flt = c.flt ∧ (behaveDutyTest P fr c).sp = c.sp ∧
    (behaveDutyTest P fr c).out.PWM_EN = c.out.PWM_EN :=
  ⟨rfl, rfl, rfl, rfl, rfl, rfl, rfl, rfl, rfl, rfl, rfl, rfl, rfl, rfl, rfl, rfl, rfl, rfl, rfl,
  rfl, rfl⟩

@[simp] theorem behaveOlVoltage_frame (P : Params N) (fr : ClampSite → N) (m : Word) (c : Context N) :
    (behaveOlVoltage P fr m c).ctl = c.ctl ∧ (behaveOlVoltage P fr m c).a = c.a ∧
    (behaveOlVoltage P fr m c).r = c.r ∧ (behaveOlVoltage P fr m c).par = c.par ∧
    (behaveOlVoltage P fr m c).bw = c.bw ∧ (behaveOlVoltage P fr m c).gain = c.gain ∧
    (behaveOlVoltage P fr m c).tun = c.tun ∧ (behaveOlVoltage P fr m c).smp = c.smp ∧
    (behaveOlVoltage P fr m c).cal = c.cal ∧ (behaveOlVoltage P fr m c).meas = c.meas ∧
    (behaveOlVoltage P fr m c).cc.Idsr_ref = c.cc.Idsr_ref ∧
    (behaveOlVoltage P fr m c).cc.Idsr = c.cc.Idsr ∧
    (behaveOlVoltage P fr m c).cc.Idsr_err = c.cc.Idsr_err ∧
    (behaveOlVoltage P fr m c).cc.Vdsr_integ = c.cc.Vdsr_integ ∧
    (behaveOlVoltage P fr m c).cc.Vdsr_ref_unsat = c.cc.Vdsr_ref_unsat ∧
    (behaveOlVoltage P fr m c).cc.Vdsr_aw = c.cc.Vdsr_aw ∧
    (behaveOlVoltage P fr m c).cc.Iqsr_ref = c.cc.Iqsr_ref ∧
    (behaveOlVoltage P fr m c).cc.Iqsr = c.cc.Iqsr ∧
    (behaveOlVoltage P fr m c).cc.Iqsr_err = c.cc.Iqsr_err ∧
    (behaveOlVoltage P fr m c).cc.Vqsr_integ = c.cc.Vqsr_integ ∧
    (behaveOlVoltage P fr m c).cc.Vqsr_ref_unsat = c.cc.Vqsr_ref_unsat ∧
    (behaveOlVoltage P fr m c).cc.Vqsr_aw = c.cc.Vqsr_aw ∧
    (behaveOlVoltage P fr m c).md.Idss = c.md.Idss ∧
    (behaveOlVoltage P fr m c).md.Iqss = c.md.Iqss ∧
    (behaveOlVoltage P fr m c).md.Iqsr_ref_unsat = c.md.Iqsr_ref_unsat ∧
    (behaveOlVoltage P fr m c).sl = c.sl ∧ (behaveOlVoltage P fr m c).sc = c.sc ∧
    (behaveOlVoltage P fr m c).hall = c.hall ∧ (behaveOlVoltage P fr m c).foo = c.foo ∧
    (behaveOlVoltage P fr m c).eemf = c.eemf ∧ (behaveOlVoltage P fr m c).al = c.al ∧
    (behaveOlVoltage P fr m c).flt = c.flt ∧ (behaveOlVoltage P fr m c).sp = c.sp ∧
    (behaveOlVoltage P fr m c).out.PWM_EN = c.out.PWM_EN :=
  ⟨rfl, rfl, rfl, rfl, rfl, rfl, rfl, rfl, rfl, rfl, rfl, rfl, rfl, rfl, rfl, rfl, rfl, rfl, rfl,
  rfl, rfl, rfl, rfl, rfl, rfl, rfl, rfl, rfl, rfl, rfl, rfl, rfl, rfl, rfl⟩

@[simp] theorem behaveIdle_frame (P : Params N) (c : Context N) :
    (behaveIdle P c).ctl.CMD = c.ctl.CMD ∧ (behaveIdle P c).ctl.CMD_ILLEGAL = c.ctl.CMD_ILLEGAL ∧
    (behaveIdle P c).ctl.CYCLE_CNT = c.ctl.CYCLE_CNT ∧ (behaveIdle P c).a = c.a ∧
    (behaveIdle P c).r = c.r ∧ (behaveIdle P c).par = c.par ∧ (behaveIdle P c).bw = c.bw ∧
    (behaveIdle P c).gain = c.gain ∧ (behaveIdle P c).tun = c.tun ∧ (behaveIdle P c).smp = c.smp ∧
    (behaveIdle P c).cal = c.cal ∧ (behaveIdle P c).meas = c.meas ∧ (behaveIdle P c).sl = c.sl ∧
    (behaveIdle P c).hall = c.hall ∧ (behaveIdle P c).foo = c.foo ∧
    (behaveIdle P c).eemf = c.eemf ∧ (behaveIdle P c).al = c.al ∧ (behaveIdle P c).flt = c.flt ∧
    (behaveIdle P c).sp.Wrpm_cmd = c.sp.Wrpm_cmd ∧
    (behaveIdle P c).sp.Torque_cmd = c.sp.Torque_cmd ∧
    (behaveIdle P c).sp.Id_ol_ref = c.sp.Id_ol_ref ∧
    (behaveIdle P c).sp.Iq_ol_ref = c.sp.Iq_ol_ref ∧
    (behaveIdle P c).sp.Vd_ol_ref = c.sp.Vd_ol_ref ∧
    (behaveIdle P c).sp.Vq_ol_ref = c.sp.Vq_ol_ref ∧ (behaveIdle P c).sp.W_ol = c.sp.W_ol ∧
    (behaveIdle P c).sp.Hall_test_sel = c.sp.Hall_test_sel ∧
    (behaveIdle P c).out.Duty_a = c.out.Duty_a ∧ (behaveIdle P c).out.Duty_b = c.out.Duty_b ∧
    (behaveIdle P c).out.Duty_c = c.out.Duty_c :=
  ⟨rfl, rfl, rfl, rfl, rfl, rfl, rfl, rfl, rfl, rfl, rfl, rfl, rfl, rfl, rfl, rfl, rfl, rfl, rfl,
  rfl, rfl, rfl, rfl, rfl, rfl, rfl, rfl, rfl, rfl⟩

end Sys2Proof.Machine
end

