-- ==== Sys2Proof/Laws/Exec.lean ====
section
/-! SUPPORT. One lemma for each command: what `exec` answers, over the function of its rule. Cite it, and
then replace `hw` by a variable (`generalize hw = P`), so that no comparison evaluates arithmetic. Beside
them the laws of the shared operations: `clamp`, the enable request, fault entry, CC_STEP's refusal. -/

namespace Sys2Proof.Machine

variable {N : Type}

/-! ## Shared operations -/

/-- All that R11 says of `clamp`. -/
theorem clamp_clampsTo (P : Params N) (fr v lo hi : N) : ClampsTo P v lo hi (clamp P fr v lo hi) := by
  intro h1 h2
  simp [clamp, h1, h2]

/-- Where R11 does not define `clamp` its value is the draw. -/
theorem clamp_undefined (P : Params N) (fr v lo hi : N) (h : P.le lo hi = false ∨ P.eq v v = false) :
    clamp P fr v lo hi = fr := by
  rcases h with h | h <;> simp [clamp, h]

theorem zero_hw : zero hw = 0#32 := by decide

theorem ofDecimal_zero_hw : hw.ofDecimal 0 1 = 0#32 := by decide

theorem ofDecimal_one_hw : hw.ofDecimal 1 1 = 0x3F800000#32 := by decide

/-- R149, R286: the enable request writes PWM_EN where no fault is latched, and nothing else. -/
theorem enableRequest_eq (c : Context N) :
    enableRequest c = { c with out.PWM_EN := if c.flt.Fault_code = 0 then true else c.out.PWM_EN } := by
  unfold enableRequest enableWith
  split <;> rfl

@[simp] theorem faultCodeUpdate_hardware (old : BitVec 2) : faultCodeUpdate .hardware old = 1 := rfl

/-- R242: "hardware fault, once latched, is never overwritten". -/
@[simp] theorem faultCodeUpdate_latched (k : FaultKind) : faultCodeUpdate k 1 = 1 := by cases k <;> rfl

theorem faultCodeUpdate_software (old : BitVec 2) :
    faultCodeUpdate .software old = if old = 1 then 1 else 2 := by
  unfold faultCodeUpdate
  split <;> simp_all

theorem faultCodeUpdate_ne_zero (k : FaultKind) (old : BitVec 2) : faultCodeUpdate k old ≠ 0 := by
  cases k
  · simp
  · rw [faultCodeUpdate_software]
    split <;> decide

theorem faultCodeUpdate_ne_three (k : FaultKind) (old : BitVec 2) : faultCodeUpdate k old ≠ 3 := by
  cases k
  · simp
  · rw [faultCodeUpdate_software]
    split <;> decide

/-- Where R145 gives CC_STEP a meaning it is its stages, up to point P1. -/
theorem ccDrive_ok (P : Params N) (fr : ClampSite → N) (comp : Bool) (i q th w : N) (c : Context N)
    (h : P.eq c.tun.CC_LPF (P.ofDecimal 0 1) = true) :
    ccDrive P fr comp i q th w c =
      .ok (ccModulate P fr comp th w (ccClamp P fr (ccUnsat P w (ccMeasure P i q th c)))) := by
  rw [ccDrive, if_pos h]

theorem ccDrive_refused (P : Params N) (fr : ClampSite → N) (comp : Bool) (i q th w : N)
    (c : Context N) (h : P.eq c.tun.CC_LPF (P.ofDecimal 0 1) = false) :
    ccDrive P fr comp i q th w c = .error .smoothing := by
  rw [ccDrive, if_neg (by simp [h])]

/-- All that CC_STEP up to P1 can do. -/
theorem ccDrive_cases (P : Params N) (fr : ClampSite → N) (comp : Bool) (i q th w : N)
    (c t : Context N) (h : ccDrive P fr comp i q th w c = .ok t) :
    P.eq c.tun.CC_LPF (P.ofDecimal 0 1) = true ∧
      t = ccModulate P fr comp th w (ccClamp P fr (ccUnsat P w (ccMeasure P i q th c))) := by
  unfold ccDrive at h
  split at h
  · exact ⟨‹_›, (Except.ok.inj h).symm⟩
  · cases h

/-- R140: what CC_STEP up to P1 leaves alone. -/
theorem ccDrive_frame (P : Params N) (fr : ClampSite → N) (comp : Bool) (i q th w : N)
    (c t : Context N) (h : ccDrive P fr comp i q th w c = .ok t) :
    t = { c with cc := t.cc, md := t.md, out := t.out } ∧ t.out.PWM_EN = c.out.PWM_EN ∧
      t.md.Iqsr_ref_unsat = c.md.Iqsr_ref_unsat := by
  obtain ⟨-, rfl⟩ := ccDrive_cases P fr comp i q th w c t h
  refine ⟨?_, by simp, by simp⟩
  ext1 <;> simp

/-- CC_STEP reads no A register but through its operands. -/
theorem ccDrive_withArgs (P : Params N) (fr : ClampSite → N) (comp : Bool) (i q th w : N)
    (c : Context N) (a : ArgRegs N) :
    ccDrive P fr comp i q th w { c with a := a } =
      (ccDrive P fr comp i q th w c).map (fun t => { t with a := a }) := by
  unfold ccDrive
  dsimp only
  split <;> rfl

/-- CC_STEP overwrites Idsr_ref before it reads it (R141), so that R228's own write of it leaves no
trace. -/
theorem ccDrive_withRef (P : Params N) (fr : ClampSite → N) (comp : Bool) (i q th w : N)
    (c : Context N) (x : N) :
    ccDrive P fr comp i q th w { c with cc.Idsr_ref := x } = ccDrive P fr comp i q th w c := by
  unfold ccDrive
  dsimp only
  split <;> rfl

/-- CC_STEP up to P1 reads neither MODE (but through `comp`) nor the fault registers nor the outputs, and
writes the three duties alone of them: what HW_FAULT writes before it, it keeps (R285). -/
theorem ccDrive_outside (P : Params N) (fr : ClampSite → N) (comp : Bool) (i q th w : N) (c : Context N)
    (k : Control) (x : FaultState N) (o : Outputs N) :
    ccDrive P fr comp i q th w { c with ctl := k, flt := x, out := o } =
      (ccDrive P fr comp i q th w c).map
        (fun t => { t with ctl := k, flt := x, out := { t.out with PWM_EN := o.PWM_EN } }) := by
  unfold ccDrive
  dsimp only
  split <;> rfl

@[simp] theorem outcomeOf_ok (s : State) (c : Context F32) :
    outcomeOf s (.ok c) = .next { s with ctx := c } := rfl

@[simp] theorem outcomeOf_error (s : State) (r : Refusal) : outcomeOf s (.error r) = .refused r := rfl

theorem outcomeOf_next (s t : State) (x : Except Refusal (Context F32))
    (h : outcomeOf s x = .next t) : x = .ok t.ctx ∧ t = { s with ctx := t.ctx } := by
  cases x with
  | ok c =>
    injection h with h
    subst h
    exact ⟨rfl, rfl⟩
  | error r => cases h

/-! ## The commands -/

theorem exec_nop (s : State) : exec .nop s = .next s := rfl
theorem exec_initParams (s : State) :
    exec .initParams s = .next { s with ctx := initParams hw s.ctx } := rfl
theorem exec_initCc (s : State) : exec .initCc s = .next { s with ctx := initCc hw s.ctx } := rfl
theorem exec_initSc (s : State) : exec .initSc s = .next { s with ctx := initSc hw s.ctx } := rfl
theorem exec_initPll (s : State) : exec .initPll s = .next { s with ctx := initPll hw s.ctx } := rfl
theorem exec_initEemf (s : State) :
    exec .initEemf s = .next { s with ctx := initEemf hw s.ctx } := rfl
theorem exec_initFoo (s : State) : exec .initFoo s = .next { s with ctx := initFoo hw s.ctx } := rfl
theorem exec_updateGains (s : State) :
    exec .updateGains s = .next { s with ctx := updateGains hw s.ctx } := rfl
theorem exec_resetCtrl (s : State) :
    exec .resetCtrl s = .next { s with ctx := resetControllers hw s.ctx } := rfl
theorem exec_clarke (s : State) :
    exec .clarke s =
      .next { s with ctx := s.ctx.result2 (clarke hw s.ctx.a.A0 s.ctx.a.A1 s.ctx.a.A2) } := rfl
theorem exec_park (s : State) :
    exec .park s =
      .next { s with
        ctx := s.ctx.result2 (park hw s.ctx.a.A0 s.ctx.a.A1 s.ctx.a.A2 s.ctx.a.A3) } := rfl
theorem exec_ipark (s : State) :
    exec .ipark s =
      .next { s with
        ctx := s.ctx.result2 (ipark hw s.ctx.a.A0 s.ctx.a.A1 s.ctx.a.A2 s.ctx.a.A3) } := rfl
theorem exec_iclarke (s : State) :
    exec .iclarke s =
      .next { s with ctx := s.ctx.result3 (iclarke hw s.ctx.a.A0 s.ctx.a.A1) } := rfl
theorem exec_svmOffset (s : State) :
    exec .svmOffset s =
      .next { s with ctx := s.ctx.result4 (
        svmOffset hw s.ctx.a.A0 s.ctx.a.A1 s.ctx.a.A2,
          hw.add s.ctx.a.A0 (svmOffset hw s.ctx.a.A0 s.ctx.a.A1 s.ctx.a.A2),
          hw.add s.ctx.a.A1 (svmOffset hw s.ctx.a.A0 s.ctx.a.A1 s.ctx.a.A2),
          hw.add s.ctx.a.A2 (svmOffset hw s.ctx.a.A0 s.ctx.a.A1 s.ctx.a.A2)) } := rfl
theorem exec_dtComp (s : State) :
    exec .dtComp s =
      .next { s with
        ctx := s.ctx.result1 (dtComp hw s.ctx.tun.DT_A s.ctx.tun.DT_B s.ctx.a.A0) } := rfl
theorem exec_duty (s : State) :
    exec .duty s =
      .next { s with
        ctx := s.ctx.result1 (duty hw (hw.freeClamp s.draws .dutyA) s.ctx.a.A0 s.ctx.a.A1) } := rfl
theorem exec_wrap (s : State) :
    exec .wrap s = .next { s with ctx := s.ctx.result1 (wrap hw s.ctx.a.A0) } := rfl
theorem exec_ccStep (s : State) :
    exec .ccStep s = outcomeOf s (ccStep hw (hw.freeClamp s.draws) (flag s.ctx.ctl.MODE .COMP)
      s.ctx.a.A0 s.ctx.a.A1 s.ctx.a.A2 s.ctx.a.A3 s.ctx) := rfl
theorem exec_scStep (s : State) :
    exec .scStep s =
      .next { s with
        ctx := scStep hw (hw.freeClamp s.draws) s.ctx.a.A0 s.ctx.a.A1 s.ctx } := rfl
theorem exec_torqueCtrl (s : State) :
    exec .torqueCtrl s = .next { s with ctx := torqueCtrl hw s.ctx.a.A0 s.ctx } := rfl
theorem exec_hallStep (s : State) :
    exec .hallStep s = .next { s with ctx := hallStep hw s.ctx } := rfl
theorem exec_fooStepA (s : State) :
    exec .fooStepA s = .next { s with ctx := fooStep hw .A s.ctx.a.A0 s.ctx } := rfl
theorem exec_fooStepB (s : State) :
    exec .fooStepB s = .next { s with ctx := fooStep hw .B s.ctx.a.A0 s.ctx } := rfl
theorem exec_eemfStep (s : State) :
    exec .eemfStep s = .next { s with ctx := eemfStep hw s.ctx.a.A0 s.ctx.a.A1 s.ctx } := rfl
theorem exec_alignStep (s : State) :
    exec .alignStep s =
      outcomeOf s (alignStep hw (hw.freeClamp s.draws) (flag s.ctx.ctl.MODE .COMP) s.ctx) := rfl
theorem exec_swFaultCheck (s : State) :
    exec .swFaultCheck s = .next { s with ctx := swFaultCheck hw s.ctx } := rfl
theorem exec_hwFault (s : State) :
    exec .hwFault s = .next { s with ctx := faultEntry hw .hardware s.ctx } := rfl
theorem exec_faultClear (s : State) :
    exec .faultClear s = .next { s with ctx := faultLeave s.ctx } := rfl
theorem exec_cycle (s : State) :
    exec .cycle s = outcomeOf s (cycle hw (hw.freeClamp s.draws) s.ctx) := rfl

end Sys2Proof.Machine
end

