-- ==== Sys2Proof/Laws/Agents.lean ====
section
/-! SUPPORT. What a step does on each input: one lemma for each, so that no later proof unfolds `step`,
`move` or `moveOf`. -/

namespace Sys2Proof.Machine

theorem step_done (s : State) (o : Host.Outcome State Fault Refusal) (h : move s = .done o) :
    step s = o := by
  simp [step, h]

theorem step_command (s t : State) (i : Instr) (h : move s = .command i t) :
    step s = afterCommand (exec i t) := by
  simp [step, h]

/-! ## Runs -/

theorem core_run_next (k : Nat) (s t : State) (h : step s = .next t) :
    core.run (k + 1) s = core.run k t := by
  have h' : core.step s = .next t := h
  simp only [Host.Core.run, h']

theorem core_run_refused (k : Nat) (s : State) (r : Refusal) (h : step s = .refused r) :
    core.run (k + 1) s = .refused r := by
  have h' : core.step s = .refused r := h
  simp only [Host.Core.run, h']

/-- A run whose first step and whose rest are known. -/
theorem core_run_step (k : Nat) (s t : State) (o : Host.Outcome State Fault Refusal)
    (h : step s = .next t) (ho : core.run k t = o) : core.run (k + 1) s = o :=
  (core_run_next k s t h).trans ho

theorem core_run_one (s t : State) (h : step s = .next t) : core.run 1 s = .next t :=
  core_run_step 0 s t _ h rfl

/-! ## Inputs -/

theorem step_nil (s : State) (h : s.inputs = []) : step s = cycStep s := by simp [step, move, h]

theorem step_cyc (s : State) (rest : List Input) (h : s.inputs = .cyc :: rest) :
    step s = cycStep { s with inputs := rest } := by simp [step, move, moveOf, h]

theorem step_settle (s : State) (rest : List Input) (h : s.inputs = .settle :: rest) :
    step s = if s.cyc.isSome then cycStep s else .next { s with inputs := rest } := by
  simp [step, move, moveOf, h]

theorem step_tick (s : State) (rest : List Input) (h : s.inputs = .tick :: rest) :
    step s = tick { s with inputs := rest } := by simp [step, move, moveOf, h]

theorem step_hwfault (s : State) (rest : List Input) (h : s.inputs = .hwfault :: rest) :
    step s = .next { s with inputs := rest, ctx := faultEntry hw .hardware s.ctx } := by
  simp [step, move, moveOf, h, execHwFault]

theorem step_reset (s : State) (rest : List Input) (h : s.inputs = .reset :: rest) :
    step s = .next (resetEvent { s with inputs := rest }) := by simp [step, move, moveOf, h]

theorem step_smpAdc (s : State) (k : BitVec 2) (code : BitVec 12) (rest : List Input)
    (h : s.inputs = .smpAdc k code :: rest) :
    step s = .next { s with inputs := rest, ctx := smpAdc s.ctx k code } := by
  simp [step, move, moveOf, h]

theorem step_smpHall (s : State) (code : BitVec 3) (rest : List Input)
    (h : s.inputs = .smpHall code :: rest) :
    step s = .next { s with inputs := rest, ctx.smp.HALL_IN := code } := by
  simp [step, move, moveOf, h]

theorem step_hostRead (s : State) (i : RegIndex) (rest : List Input)
    (h : s.inputs = .hostRead i :: rest) (ha : hostAdmitted s = true) :
    step s = .next { s with inputs := rest, readData := regRead s.ctx i } := by
  have ha' : hostAdmitted { s with inputs := rest } = true := ha
  simp [step, move, moveOf, h, hostRead, ha']

theorem step_hostWrite (s : State) (i : RegIndex) (v : Word) (rest : List Input)
    (h : s.inputs = .hostWrite i v :: rest) (hi : i ≠ cmdIndex) (ha : hostAdmitted s = true) :
    step s = .next { s with inputs := rest, ctx := regStore s.ctx i v } := by
  have ha' : hostAdmitted { s with inputs := rest } = true := ha
  simp [step, move, moveOf, h, hostWrite, hi, ha']

theorem step_writeCmd_illegal (s : State) (w : Word) (rest : List Input) (e : Illegal)
    (h : s.inputs = .hostWrite cmdIndex w :: rest) (hc : s.cyc = none) (hd : decode w = .error e) :
    step s = .next { s with inputs := rest, ctx.ctl.CMD := w, ctx.ctl.CMD_ILLEGAL := true } := by
  simp [step, move, moveOf, h, hostWrite, writeCmd, hc, hd]

theorem step_writeCmd_legal (s : State) (w : Word) (rest : List Input) (i : Instr)
    (h : s.inputs = .hostWrite cmdIndex w :: rest) (hc : s.cyc = none) (hd : decode w = .ok i) :
    step s = afterCommand (exec i { s with inputs := rest, ctx.ctl.CMD := w }) := by
  simp [step, move, moveOf, h, hostWrite, writeCmd, hc, hd]

theorem step_writeCmd_busy (s : State) (w : Word) (rest : List Input) (p : InFlight)
    (h : s.inputs = .hostWrite cmdIndex w :: rest) (hc : s.cyc = some p) :
    step s = .refused .commandDuringCycle := by
  simp [step, move, moveOf, h, hostWrite, writeCmd, hc]

/-- R64: inside a step of a cycle a HOST access waits, and CYC takes its next part. -/
theorem step_hostWaits (s : State) (x : Input) (rest : List Input) (h : s.inputs = x :: rest)
    (hx : (∃ i, x = .hostRead i) ∨ ∃ i v, x = .hostWrite i v ∧ i ≠ cmdIndex)
    (ha : hostAdmitted s = false) : step s = cycStep s := by
  have ha' : hostAdmitted { s with inputs := rest } = false := ha
  rcases hx with ⟨i, rfl⟩ | ⟨i, v, rfl, hi⟩
  · simp [step, move, moveOf, h, hostRead, ha']
  · simp [step, move, moveOf, h, hostWrite, hi, ha']

/-- How a step ends is how a move does: the one case split over the inputs. A command comes from a write
to CMD alone. -/
theorem move_command (s t : State) (i : Instr) (h : move s = .command i t) :
    s.cyc = none ∧ ∃ w, t.ctx = { s.ctx with ctl.CMD := w } ∧ t.cyc = none := by
  have wc : ∀ (s' : State) v, s'.ctx = s.ctx → s'.cyc = s.cyc → writeCmd s' v = .command i t →
      s.cyc = none ∧ ∃ w, t.ctx = { s.ctx with ctl.CMD := w } ∧ t.cyc = none := by
    intro s' v h1 h2 h3
    unfold writeCmd at h3
    split at h3
    · cases h3
    · rename_i hc
      split at h3
      · injection h3 with _ h3
        subst h3
        exact ⟨h2 ▸ hc, v, by rw [← h1], hc⟩
      · cases h3
  have hwr : ∀ (held s' : State) j v, s'.ctx = s.ctx → s'.cyc = s.cyc →
      hostWrite held s' j v = .command i t →
      s.cyc = none ∧ ∃ w, t.ctx = { s.ctx with ctl.CMD := w } ∧ t.cyc = none := by
    intro held s' j v h1 h2 h3
    unfold hostWrite at h3
    split at h3
    · exact wc s' v h1 h2 h3
    · split at h3 <;> cases h3
  unfold move at h
  split at h
  · cases h
  · rename_i x rest hin
    unfold moveOf at h
    split at h <;> try cases h
    · exact hwr _ _ _ _ (by rfl) (by rfl) h
    · unfold hostRead at h
      split at h <;> cases h
    · split at h
      · exact hwr _ _ _ _ (by rfl) (by rfl) h
      · cases h
    · split at h
      · unfold hostRead at h
        split at h <;> cases h
      · cases h

/-- The register file after a step: a part of a cycle, a fault entry, the reset, a store of HOST or SMP, a
read, or a command, on the register file before. -/
inductive CtxMove (s : State) : Context F32 → Prop where
  | same : CtxMove s s.ctx
  | part (p : InFlight) (l : Locals) (c : Context F32) (hp : s.cyc = some p)
      (h : phaseStep hw (hw.freeClamp s.draws) p.next p.loc s.ctx = .ok (l, c)) : CtxMove s c
  | hwfault : CtxMove s (faultEntry hw .hardware s.ctx)
  | reset : CtxMove s State.reset.ctx
  | store (i : RegIndex) (v : Word) (h : i ≠ cmdIndex) : CtxMove s (regStore s.ctx i v)
  | illegal (w : Word) : CtxMove s { s.ctx with ctl.CMD := w, ctl.CMD_ILLEGAL := true }
  | adc (k : BitVec 2) (code : BitVec 12) : CtxMove s (smpAdc s.ctx k code)
  | hall (code : BitVec 3) : CtxMove s { s.ctx with smp.HALL_IN := code }
  | command (i : Instr) (s' t : State) (hm : move s = .command i s')
      (h : exec i s' = .next t) : CtxMove s t.ctx

theorem cycStep_ctx (s' s t : State) (hc : s'.ctx = s.ctx) (hp : s'.cyc = s.cyc)
    (hd : s'.draws = s.draws) (h : cycStep s' = .next t) : CtxMove s t.ctx := by
  unfold cycStep at h
  split at h
  · injection h with h
    subst h
    exact hc ▸ .same
  · rename_i p hp'
    split at h
    · cases h
    · rename_i l c hph
      have hm : CtxMove s c := .part p l c (hp ▸ hp') (by rw [← hd, ← hc]; exact hph)
      split at h <;> (injection h with h; subst h; exact hm)

/-- All that a step does to the register file. -/
theorem step_ctx (s t : State) (h : step s = .next t) : CtxMove s t.ctx := by
  have wr : ∀ (held s' : State) j v, held.ctx = s.ctx → held.cyc = s.cyc → held.draws = s.draws →
      s'.ctx = s.ctx → hostWrite held s' j v = .done (.next t) → CtxMove s t.ctx := by
    intro held s' j v h1 h2 h3 h4 h5
    unfold hostWrite at h5
    split at h5
    · unfold writeCmd at h5
      split at h5
      · cases h5
      · split at h5
        · cases h5
        · injection h5 with h5
          injection h5 with h5
          subst h5
          simp only [h4]
          exact .illegal v
    · split at h5
      · injection h5 with h5
        injection h5 with h5
        subst h5
        simp only [h4]
        exact .store j v ‹_›
      · injection h5 with h5
        exact cycStep_ctx held s t h1 h2 h3 h5
  have rd : ∀ (held s' : State) j, held.ctx = s.ctx → held.cyc = s.cyc → held.draws = s.draws →
      s'.ctx = s.ctx → hostRead held s' j = .done (.next t) → CtxMove s t.ctx := by
    intro held s' j h1 h2 h3 h4 h5
    unfold hostRead at h5
    split at h5
    · injection h5 with h5
      injection h5 with h5
      subst h5
      exact h4 ▸ .same
    · injection h5 with h5
      exact cycStep_ctx held s t h1 h2 h3 h5
  unfold step at h
  split at h
  · rename_i i s' hm
    cases he : exec i s' with
    | next u =>
      rw [he] at h
      injection h with h
      subst h
      exact .command i s' u hm he
    | fault r => rw [he] at h; cases h
    | refused r => rw [he] at h; cases h
  · rename_i o hm
    subst h
    unfold move at hm
    split at hm
    · injection hm with hm
      exact cycStep_ctx s s t rfl rfl rfl hm
    · unfold moveOf at hm
      split at hm
      · injection hm with hm
        exact cycStep_ctx _ s t (by rfl) (by rfl) (by rfl) hm
      · injection hm with hm
        split at hm
        · exact cycStep_ctx _ s t (by rfl) (by rfl) (by rfl) hm
        · injection hm with hm
          subst hm
          exact .same
      · injection hm with hm
        unfold tick at hm
        split at hm
        · injection hm with hm
          subst hm
          exact .same
        · cases hm
      · injection hm with hm
        injection hm with hm
        subst hm
        exact .hwfault
      · injection hm with hm
        injection hm with hm
        subst hm
        exact .reset
      · exact wr s _ _ _ rfl rfl rfl (by rfl) hm
      · exact rd s _ _ rfl rfl rfl (by rfl) hm
      · split at hm
        · exact wr s _ _ _ rfl rfl rfl (by rfl) hm
        · cases hm
      · split at hm
        · exact rd s _ _ rfl rfl rfl (by rfl) hm
        · cases hm
      · injection hm with hm
        injection hm with hm
        subst hm
        exact .adc _ _
      · injection hm with hm
        injection hm with hm
        subst hm
        exact .hall _

end Sys2Proof.Machine
end

