-- ==== Sys2Proof/Laws/Cycle.lean ====
section
/-! SUPPORT. The cycle as a whole: `cycle_eq` writes the fifteen parts of CYCLE as one expression over the
register file, so that a statement about a cycle cites it and unfolds no part; the flags of MODE through
CORE's writes; what the alignment's actions and tail can do; and the parts of a cycle taken one at a time
by the agent CYC. -/

namespace Sys2Proof.Machine

variable {N : Type}

/-! ## MODE.FAULT through CORE's and HOST's writes -/

theorem flag_setFlag_fault (m : Word) : flag (setFlag m .FAULT) .FAULT = true := by
  simp [flag, setFlag, ModeFlag.mask, ModeFlag.bit]

theorem flag_clearFlag_fault (m : Word) : flag (clearFlag m .FAULT) .FAULT = false := by
  simp [flag, clearFlag, ModeFlag.mask, ModeFlag.bit]

theorem flag_clearFlag_align (m : Word) : flag (clearFlag m .ALIGN) .FAULT = flag m .FAULT := by
  simp [flag, clearFlag, ModeFlag.mask, ModeFlag.bit]

theorem flag_clearRunModes (m : Word) : flag (clearRunModes m) .FAULT = flag m .FAULT := by
  simp [flag, clearRunModes, ModeFlag.bit]

/-- R26, R63: HOST cannot change MODE.FAULT. -/
theorem flag_modeHostWrite (old v : Word) : flag (modeHostWrite old v) .FAULT = flag old .FAULT := by
  simp [flag, modeHostWrite, ModeFlag.mask, ModeFlag.bit]

/-! ## Alignment -/

/-- All that the actions of a stage can do: Init, Done, or CC_STEP up to P1. -/
theorem alignActions_cases (P : Params N) (fr : ClampSite → N) (comp : Bool) (st : BitVec 2)
    (c t : Context N) (h : alignActions P fr comp st c = .ok t) :
    (st = 0 ∧ t = alignInit P c) ∨ (st = 3 ∧ t = alignDone c) ∨
      (alignDrives st = true ∧ P.eq c.tun.CC_LPF (P.ofDecimal 0 1) = true ∧
        t = { c with cc := t.cc, md := t.md, out := t.out } ∧ t.out.PWM_EN = c.out.PWM_EN ∧
        t.md.Iqsr_ref_unsat = c.md.Iqsr_ref_unsat) := by
  unfold alignActions at h
  dsimp only at h
  split at h
  · exact .inl ⟨‹_›, (Except.ok.inj h).symm⟩
  · split at h
    · exact .inr (.inr ⟨by simp_all [alignDrives], (ccDrive_cases _ _ _ _ _ _ _ _ _ h).1,
        ccDrive_frame _ _ _ _ _ _ _ _ _ h⟩)
    · split at h
      · exact .inr (.inr ⟨by simp_all [alignDrives], (ccDrive_cases _ _ _ _ _ _ _ _ _ h).1,
          ccDrive_frame P fr comp _ _ _ _ { c with cc.Idsr_ref := P.ofDecimal 0 1 } t h⟩)
      · refine .inr (.inl ⟨?_, (Except.ok.inj h).symm⟩)
        revert st
        decide

/-- R230: the tail of ALIGN_STEP never ends in stage 3 unless it began there. -/
theorem alignTail_stage (P : Params N) (st : BitVec 2) (c : Context N) :
    (alignTail P st c).al.Align_stage = c.al.Align_stage ∨
      (alignTail P st c).al.Align_stage = 0 ∨ (alignTail P st c).al.Align_stage = 2 := by
  unfold alignTail
  dsimp only
  split
  · exact .inr (.inr rfl)
  · split
    · exact .inr (.inl rfl)
    · exact .inl rfl

theorem alignTail_fault (P : Params N) (st : BitVec 2) (c : Context N) :
    flag (alignTail P st c).ctl.MODE .FAULT = flag c.ctl.MODE .FAULT := by
  unfold alignTail
  dsimp only
  split
  · rfl
  · split
    · exact flag_clearFlag_align _
    · rfl

/-! ## The cycle in one expression -/

/-- S3 on the codes that S2 reads (R262 to R264). -/
def sampled (P : Params N) (c : Context N) : Context N :=
  let l := { Locals.fresh with
    raw0 := c.smp.ADC_RAW0, raw1 := c.smp.ADC_RAW1, raw2 := c.smp.ADC_RAW2, raw3 := c.smp.ADC_RAW3 }
  if c.cal.CAL_DONE then
    convVoltage P l { c with
      meas.Ia := convCurrent P l.raw0 c.cal.ADC1_Offset0 c.smp.ADC_GAIN0
      meas.Ib := convCurrent P l.raw1 c.cal.ADC1_Offset1 c.smp.ADC_GAIN1
      meas.Ic := convCurrent P l.raw2 c.cal.ADC1_Offset2 c.smp.ADC_GAIN2 }
  else { c with cal := calibrate P l c.cal }

/-- S1 to S6 (R261 to R267). -/
def beforeS7 (P : Params N) (c : Context N) : Context N :=
  hallStep P (updateGains P (swFaultCheck P (sampled P (countCycle c))))

/-- S7 up to the behaviour (R268, R271), with the mode and the latch read in S7. -/
def selected (P : Params N) (c : Context N) : Context N :=
  selectSource P (behaviour c.ctl.MODE c.flt.Fault_code) c.ctl.MODE (sensorless P c.ctl.MODE c)

/-- The end of S7 (R286, R230, R284): `m` and `f` as S7 read them, `st` the stage it began in. -/
def settled (P : Params N) (m : Word) (f st : BitVec 2) (r : Context N × Bool) : Context N :=
  let c := if r.2 then enableRequest r.1 else r.1
  if behaviour m f = .ALIGN then alignTail P st c else { c with al.Align_stage := 0 }

@[simp] theorem sampled_frame (P : Params N) (c : Context N) :
    (sampled P c).ctl = c.ctl ∧ (sampled P c).a = c.a ∧ (sampled P c).r = c.r ∧
    (sampled P c).par = c.par ∧ (sampled P c).bw = c.bw ∧ (sampled P c).gain = c.gain ∧
    (sampled P c).tun = c.tun ∧ (sampled P c).smp = c.smp ∧ (sampled P c).cc = c.cc ∧
    (sampled P c).md = c.md ∧ (sampled P c).sl = c.sl ∧ (sampled P c).sc = c.sc ∧
    (sampled P c).hall = c.hall ∧ (sampled P c).foo = c.foo ∧ (sampled P c).eemf = c.eemf ∧
    (sampled P c).al = c.al ∧ (sampled P c).flt = c.flt ∧ (sampled P c).sp = c.sp ∧
    (sampled P c).out = c.out ∧ (sampled P c).meas.Idc = c.meas.Idc := by
  unfold sampled
  dsimp only
  refine ⟨?_, ?_, ?_, ?_, ?_, ?_, ?_, ?_, ?_, ?_, ?_, ?_, ?_, ?_, ?_, ?_, ?_, ?_, ?_, ?_⟩ <;>
    split <;> rfl

theorem runPhases_cons (P : Params N) (fr : ClampSite → N) (ph : Phase) (phs : List Phase) (l : Locals)
    (c : Context N) :
    runPhases P fr (ph :: phs) l c =
      match phaseStep P fr ph l c with
      | .ok (l', c') => runPhases P fr phs l' c'
      | .error r => .error r := rfl

/-- CYCLE (R260): S1 to S6, the choice of source, the behaviour, the end of S7. -/
theorem cycle_eq (P : Params N) (fr : ClampSite → N) (c : Context N) :
    cycle P fr c =
      let b := beforeS7 P c
      let m := b.ctl.MODE
      let f := b.flt.Fault_code
      let s := selected P b
      (behave P fr (behaviour m f) m s).map (settled P m f s.al.Align_stage) := by
  have hpre : ∀ (phs : List Phase),
      runPhases P fr (.S1 :: .S2 :: .S3a :: .S3b :: .S3c :: .S3d :: .S4 :: .S5 :: .S6 :: .S7snap :: phs)
        Locals.fresh c =
      runPhases P fr phs
        { Locals.fresh with
          raw0 := c.smp.ADC_RAW0, raw1 := c.smp.ADC_RAW1, raw2 := c.smp.ADC_RAW2
          raw3 := c.smp.ADC_RAW3, conv := c.cal.CAL_DONE, m := (beforeS7 P c).ctl.MODE
          f := (beforeS7 P c).flt.Fault_code }
        (beforeS7 P c) := by
    intro phs
    simp only [runPhases_cons, phaseStep]
    cases h : c.cal.CAL_DONE <;>
      simp only [countCycle, h, Bool.false_eq_true, if_false, if_true, beforeS7, sampled]
    rfl
  unfold cycle cyclePhases
  rw [hpre]
  dsimp only
  simp only [runPhases_cons, phaseStep]
  generalize beforeS7 P c = b
  unfold selected
  cases behave P fr (behaviour b.ctl.MODE b.flt.Fault_code) b.ctl.MODE
      (selectSource P (behaviour b.ctl.MODE b.flt.Fault_code) b.ctl.MODE
        (sensorless P b.ctl.MODE b)) with
  | error r => rfl
  | ok r => rfl

/-- R263: all that one cycle of calibration does. -/
theorem calibrate_spec (P : Params N) (l : Locals) (k : Calibration N) (hd : k.CAL_DONE = false) :
    (calibrate P l k).CAL_CNT = k.CAL_CNT + 1 ∧
    (calibrate P l k).CAL_DONE = (k.CAL_CNT + 1 == 10000#32) ∧
    (5000#32 < k.CAL_CNT + 1 →
      (calibrate P l k).OFFSET_SUM0 = P.add k.OFFSET_SUM0 (P.ofInt l.raw0.toNat) ∧
      (calibrate P l k).OFFSET_SUM1 = P.add k.OFFSET_SUM1 (P.ofInt l.raw1.toNat) ∧
      (calibrate P l k).OFFSET_SUM2 = P.add k.OFFSET_SUM2 (P.ofInt l.raw2.toNat)) ∧
    (¬ 5000#32 < k.CAL_CNT + 1 →
      (calibrate P l k).OFFSET_SUM0 = k.OFFSET_SUM0 ∧ (calibrate P l k).OFFSET_SUM1 = k.OFFSET_SUM1 ∧
      (calibrate P l k).OFFSET_SUM2 = k.OFFSET_SUM2) ∧
    (k.CAL_CNT + 1 = 10000#32 →
      (calibrate P l k).ADC1_Offset0 = P.div (calibrate P l k).OFFSET_SUM0 (P.ofDecimal 5000 1) ∧
      (calibrate P l k).ADC1_Offset1 = P.div (calibrate P l k).OFFSET_SUM1 (P.ofDecimal 5000 1) ∧
      (calibrate P l k).ADC1_Offset2 = P.div (calibrate P l k).OFFSET_SUM2 (P.ofDecimal 5000 1)) ∧
    (k.CAL_CNT + 1 ≠ 10000#32 →
      (calibrate P l k).ADC1_Offset0 = k.ADC1_Offset0 ∧ (calibrate P l k).ADC1_Offset1 = k.ADC1_Offset1 ∧
      (calibrate P l k).ADC1_Offset2 = k.ADC1_Offset2) := by
  unfold calibrate calAccumulate adcNum
  dsimp only
  generalize k.CAL_CNT + 1 = n
  by_cases h5 : 5000#32 < n
  · by_cases h10 : n = 10000#32
    · simp [h10]
    · simp only [h5, if_true, h10, if_false]
      simp [hd, h10]
  · by_cases h10 : n = 10000#32
    · subst h10
      exact absurd (by decide) h5
    · simp only [h5, if_false, h10]
      simp [hd, h10]

/-- S3 while CAL_DONE is 0 (R263). -/
theorem sampled_calibrates (P : Params N) (c : Context N) (hd : c.cal.CAL_DONE = false) :
    (sampled P c).meas = c.meas ∧
    (sampled P c).cal = calibrate P { Locals.fresh with
      raw0 := c.smp.ADC_RAW0, raw1 := c.smp.ADC_RAW1, raw2 := c.smp.ADC_RAW2
      raw3 := c.smp.ADC_RAW3 } c.cal := by
  unfold sampled
  dsimp only
  rw [if_neg (by simp [hd])]
  exact ⟨rfl, rfl⟩

/-- S3 while CAL_DONE is 1 (R264). -/
theorem sampled_converts (P : Params N) (c : Context N) (hd : c.cal.CAL_DONE = true) :
    (sampled P c).cal = c.cal ∧
    (sampled P c).meas =
      { Ia := convCurrent P c.smp.ADC_RAW0 c.cal.ADC1_Offset0 c.smp.ADC_GAIN0
        Ib := convCurrent P c.smp.ADC_RAW1 c.cal.ADC1_Offset1 c.smp.ADC_GAIN1
        Ic := convCurrent P c.smp.ADC_RAW2 c.cal.ADC1_Offset2 c.smp.ADC_GAIN2
        Vdc := P.mul (vdcFilter P c.smp.ADC_RAW3 c.meas.Vdc_lpf) c.smp.ADC_GAIN3
        Vdc_lpf := vdcFilter P c.smp.ADC_RAW3 c.meas.Vdc_lpf
        Idc := c.meas.Idc } := by
  unfold sampled
  dsimp only
  rw [if_pos hd]
  exact ⟨rfl, rfl⟩

/-- R282, R284, R286: what the end of S7 leaves alone. -/
@[simp] theorem settled_frame (P : Params N) (m : Word) (f st : BitVec 2) (r : Context N × Bool) :
    (settled P m f st r).a = r.1.a ∧ (settled P m f st r).r = r.1.r ∧
    (settled P m f st r).par = r.1.par ∧ (settled P m f st r).bw = r.1.bw ∧
    (settled P m f st r).gain = r.1.gain ∧ (settled P m f st r).tun = r.1.tun ∧
    (settled P m f st r).smp = r.1.smp ∧ (settled P m f st r).cal = r.1.cal ∧
    (settled P m f st r).meas = r.1.meas ∧ (settled P m f st r).cc = r.1.cc ∧
    (settled P m f st r).md = r.1.md ∧ (settled P m f st r).sl = r.1.sl ∧
    (settled P m f st r).sc = r.1.sc ∧ (settled P m f st r).hall = r.1.hall ∧
    (settled P m f st r).foo = r.1.foo ∧ (settled P m f st r).eemf = r.1.eemf ∧
    (settled P m f st r).flt = r.1.flt ∧ (settled P m f st r).sp = r.1.sp ∧
    (settled P m f st r).ctl.CMD = r.1.ctl.CMD ∧
    (settled P m f st r).ctl.CMD_ILLEGAL = r.1.ctl.CMD_ILLEGAL ∧
    (settled P m f st r).ctl.CYCLE_CNT = r.1.ctl.CYCLE_CNT := by
  unfold settled
  dsimp only
  split <;> split <;> simp [enableRequest]

/-- What no behaviour of S7 writes (R272 to R281). -/
theorem behave_frame (P : Params N) (fr : ClampSite → N) (b : Behaviour) (m : Word) (c : Context N)
    (r : Context N × Bool) (h : behave P fr b m c = .ok r) :
    r.1.a = c.a ∧ r.1.r = c.r ∧ r.1.par = c.par ∧ r.1.bw = c.bw ∧ r.1.gain = c.gain ∧
    r.1.tun = c.tun ∧ r.1.smp = c.smp ∧ r.1.cal = c.cal ∧ r.1.meas = c.meas ∧ r.1.hall = c.hall ∧
    r.1.foo = c.foo ∧ r.1.eemf = c.eemf ∧ r.1.flt = c.flt ∧ r.1.ctl.CMD = c.ctl.CMD ∧
    r.1.ctl.CMD_ILLEGAL = c.ctl.CMD_ILLEGAL ∧ r.1.ctl.CYCLE_CNT = c.ctl.CYCLE_CNT := by
  cases b <;> simp only [behave] at h
  case RUN =>
    cases hr : behaveRun P fr m c with
    | error e => rw [hr] at h; cases h
    | ok y =>
      rw [hr] at h
      injection h with h
      subst h
      have := (ccDrive_frame _ _ _ _ _ _ _ _ _ hr).1
      dsimp only
      rw [this]
      simp
      split <;> simp
  case OL_CURRENT =>
    cases hr : ccDrive P fr (flag m .COMP) c.sp.Id_ol_ref c.sp.Iq_ol_ref c.sl.Thetar_sel c.sl.Wr_sel
        c with
    | error e => rw [hr] at h; cases h
    | ok y =>
      rw [hr] at h
      injection h with h
      subst h
      have := (ccDrive_frame _ _ _ _ _ _ _ _ _ hr).1
      dsimp only
      rw [this]
      simp
  case ALIGN =>
    cases hr : alignActions P fr (flag m .COMP) c.al.Align_stage c with
    | error e => rw [hr] at h; cases h
    | ok y =>
      rw [hr] at h
      injection h with h
      subst h
      rcases alignActions_cases _ _ _ _ _ _ hr with ⟨-, rfl⟩ | ⟨-, rfl⟩ | ⟨-, -, h1, -⟩
      · simp
      · simp
      · dsimp only
        rw [h1]
        simp
  case VREF_GEN => cases h
  case PARAM_EST => cases h
  all_goals
    injection h with h
    subst h
    simp

/-- Of the setpoints a behaviour writes only those that the idle path zeroes (R109, R281). -/
theorem behave_sp (P : Params N) (fr : ClampSite → N) (b : Behaviour) (m : Word) (c : Context N)
    (r : Context N × Bool) (h : behave P fr b m c = .ok r) :
    r.1.sp = c.sp ∨ r.1.sp = (behaveIdle P c).sp := by
  cases b <;> simp only [behave] at h
  case RUN =>
    cases hr : behaveRun P fr m c with
    | error e => rw [hr] at h; cases h
    | ok y =>
      rw [hr] at h
      injection h with h
      subst h
      have := (ccDrive_frame _ _ _ _ _ _ _ _ _ hr).1
      dsimp only
      rw [this]
      left
      simp
      split <;> simp
  case OL_CURRENT =>
    cases hr : ccDrive P fr (flag m .COMP) c.sp.Id_ol_ref c.sp.Iq_ol_ref c.sl.Thetar_sel c.sl.Wr_sel
        c with
    | error e => rw [hr] at h; cases h
    | ok y =>
      rw [hr] at h
      injection h with h
      subst h
      have := (ccDrive_frame _ _ _ _ _ _ _ _ _ hr).1
      dsimp only
      rw [this]
      simp
  case ALIGN =>
    cases hr : alignActions P fr (flag m .COMP) c.al.Align_stage c with
    | error e => rw [hr] at h; cases h
    | ok y =>
      rw [hr] at h
      injection h with h
      subst h
      rcases alignActions_cases _ _ _ _ _ _ hr with ⟨-, rfl⟩ | ⟨-, rfl⟩ | ⟨-, -, h1, -⟩
      · simp
      · simp
      · dsimp only
        rw [h1]
        simp
  case VREF_GEN => cases h
  case PARAM_EST => cases h
  case IDLE =>
    injection h with h
    subst h
    exact .inr rfl
  all_goals
    injection h with h
    subst h
    simp

/-- S1 to S6 change MODE only by fault entry, and then a fault is latched. -/
theorem beforeS7_mode (P : Params N) (c : Context N) :
    (beforeS7 P c).ctl.MODE = c.ctl.MODE ∧ (beforeS7 P c).flt = c.flt ∨
      (beforeS7 P c).ctl.MODE = setFlag (clearFlag c.ctl.MODE .READY) .FAULT ∧
        (beforeS7 P c).flt.Fault_code ≠ 0#2 := by
  simp only [beforeS7, hallStep_frame, updateGains_frame]
  unfold swFaultCheck
  split
  · right
    exact ⟨by simp, by simpa using faultCodeUpdate_ne_zero _ _⟩
  · left
    simp

/-- Every other flag of MODE through fault entry. -/
theorem flag_faultEntry (m : Word) (f : ModeFlag) (h : f ≠ .READY) (h' : f ≠ .FAULT) :
    flag (setFlag (clearFlag m .READY) .FAULT) f = flag m f := by
  cases f <;> simp_all [flag, setFlag, clearFlag, ModeFlag.mask, ModeFlag.bit]

theorem flag_faultEntry_ready (m : Word) : flag (setFlag (clearFlag m .READY) .FAULT) .READY = false := by
  simp [flag, setFlag, clearFlag, ModeFlag.mask, ModeFlag.bit]

/-- R269, R270: not ready, or latched, is IDLE. -/
theorem behaviour_idle (m : Word) (f : BitVec 2) (h : flag m .READY = false ∨ f ≠ 0#2) :
    behaviour m f = .IDLE := by
  have : active m f = false := by
    rcases h with h | h
    · simp [active, h]
    · simp only [active, Bool.and_eq_false_imp, beq_eq_false_iff_ne]
      exact fun _ => h
  simp [behaviour, this]

/-- A behaviour completes where R145, R276 and R279 give it a meaning. -/
theorem behave_completes (P : Params N) (fr : ClampSite → N) (b : Behaviour) (m : Word) (c : Context N)
    (h : P.eq c.tun.CC_LPF (P.ofDecimal 0 1) = true) (hb : b ≠ .VREF_GEN) (hb' : b ≠ .PARAM_EST) :
    ∃ r, behave P fr b m c = .ok r := by
  cases b <;> simp only [behave] <;> try exact ⟨_, rfl⟩
  · unfold behaveRun
    dsimp only
    rw [ccDrive_ok]
    · exact ⟨_, rfl⟩
    · simp
      split <;> simpa using h
  · rw [ccDrive_ok _ _ _ _ _ _ _ _ h]
    exact ⟨_, rfl⟩
  · exact absurd rfl hb
  · exact absurd rfl hb'
  · unfold alignActions
    dsimp only
    split
    · exact ⟨_, rfl⟩
    split
    · rw [ccDrive_ok _ _ _ _ _ _ _ _ h]
      exact ⟨_, rfl⟩
    split
    · rw [ccDrive_ok _ _ _ _ _ _ _ _ (by simpa using h)]
      exact ⟨_, rfl⟩
    · exact ⟨_, rfl⟩

/-- R268, R211: of the gains the sensorless observers write the two of EEMF_STEP. -/
theorem sensorless_gain (P : Params N) (m : Word) (c : Context N) :
    (sensorless P m c).gain = { c.gain with
      Kp_eemf := if flag m .SENSORLESS then P.mul c.par.Ld c.bw.Wc_eemf else c.gain.Kp_eemf
      Ki_eemf := if flag m .SENSORLESS then P.mul c.par.Rs c.bw.Wc_eemf else c.gain.Ki_eemf } := by
  unfold sensorless
  split <;> rfl

/-- The choice of source reads and writes nothing that HW_FAULT writes but through the snapshot (R285, point
Q1). -/
theorem selectSource_outside (P : Params N) (b : Behaviour) (m : Word) (c : Context N)
    (k : Control) (x : FaultState N) (o : Outputs N) :
    selectSource P b m (sensorless P m { c with ctl := k, flt := x, out := o }) =
      { selectSource P b m (sensorless P m c) with ctl := k, flt := x, out := o } := by
  cases b <;> (unfold selectSource sensorless; dsimp only; split <;> rfl)

theorem behaveRun_outside (P : Params N) (fr : ClampSite → N) (m : Word) (c : Context N)
    (k : Control) (x : FaultState N) (o : Outputs N) :
    behaveRun P fr m { c with ctl := k, flt := x, out := o } =
      (behaveRun P fr m c).map
        (fun t => { t with ctl := k, flt := x, out := { t.out with PWM_EN := o.PWM_EN } }) := by
  have h1 : ∀ w : N, torqueToCurrent P (scStep P fr w (P.div c.sl.Wr_sel c.par.PP)
      { c with ctl := k, flt := x, out := o }) =
      { torqueToCurrent P (scStep P fr w (P.div c.sl.Wr_sel c.par.PP) c) with
        ctl := k, flt := x, out := o } := fun _ => rfl
  have h2 : ∀ w : N, torqueToCurrent P (torqueCtrl P w { c with ctl := k, flt := x, out := o }) =
      { torqueToCurrent P (torqueCtrl P w c) with ctl := k, flt := x, out := o } := fun _ => rfl
  unfold behaveRun
  dsimp only
  cases flag m .TORQUE_SEL
  · simp only [Bool.false_eq_true, if_false]
    rw [h1]
    exact ccDrive_outside P fr _ _ _ _ _ _ k x o
  · simp only [if_true]
    rw [h2]
    exact ccDrive_outside P fr _ _ _ _ _ _ k x o

/-- A behaviour that ends in an enable request reads nothing that HW_FAULT writes, and of it writes the
duties alone (R285, points Q1 and Q2). -/
theorem behave_outside (P : Params N) (fr : ClampSite → N) (b : Behaviour) (m : Word) (c t : Context N)
    (k : Control) (x : FaultState N) (o : Outputs N) (h : behave P fr b m c = .ok (t, true)) :
    behave P fr b m { c with ctl := k, flt := x, out := o } =
      .ok ({ t with ctl := k, flt := x, out := { t.out with PWM_EN := o.PWM_EN } }, true) := by
  cases b <;> simp only [behave] at h ⊢
  case RUN =>
    rw [behaveRun_outside]
    cases hr : behaveRun P fr m c with
    | error e => rw [hr] at h; cases h
    | ok y => rw [hr] at h; cases h; rfl
  case OL_CURRENT =>
    rw [ccDrive_outside]
    cases hr : ccDrive P fr (flag m .COMP) c.sp.Id_ol_ref c.sp.Iq_ol_ref c.sl.Thetar_sel c.sl.Wr_sel
        c with
    | error e => rw [hr] at h; cases h
    | ok y => rw [hr] at h; cases h; rfl
  case ALIGN =>
    cases hr : alignActions P fr (flag m .COMP) c.al.Align_stage c with
    | error e => rw [hr] at h; cases h
    | ok y =>
      rw [hr] at h
      injection h with h
      injection h with h hd
      subst h
      have hc : alignActions P fr (flag m .COMP) c.al.Align_stage
          { c with ctl := k, flt := x, out := o } =
          .ok { y with ctl := k, flt := x, out := { y.out with PWM_EN := o.PWM_EN } } := by
        unfold alignActions at hr ⊢
        dsimp only at hr ⊢
        split at hr
        · simp_all [alignDrives]
        · split at hr
          · rw [if_neg ‹_›, if_pos ‹_›, ccDrive_outside, hr]
            rfl
          · split at hr
            · rw [if_neg ‹_›, if_neg ‹_›, if_pos ‹_›]
              have := ccDrive_outside P fr (flag m .COMP) (P.ofDecimal 0 1) (P.ofDecimal 0 1)
                (P.ofDecimal 0 1) (P.ofDecimal 0 1) { c with cc.Idsr_ref := P.ofDecimal 0 1 } k x o
              rw [hr] at this
              exact this
            · simp_all [alignDrives]
      rw [hc, ← hd]
      rfl
  case VREF_GEN => cases h
  case PARAM_EST => cases h
  case IDLE => cases h
  case HALL_TEST =>
    injection h with h
    injection h with h hd
    subst h
    unfold behaveHallTest
    dsimp only
    rw [hd, if_pos rfl, if_pos rfl]
    rfl
  all_goals
    cases h
    rfl

/-- All that a completed CYCLE does. -/
theorem exec_cycle_next (s t : State) (h : exec .cycle s = .next t) :
    ∃ r, behave hw (hw.freeClamp s.draws)
        (behaviour (beforeS7 hw s.ctx).ctl.MODE (beforeS7 hw s.ctx).flt.Fault_code)
        (beforeS7 hw s.ctx).ctl.MODE (selected hw (beforeS7 hw s.ctx)) = .ok r ∧
      t = { s with
        ctx := settled hw (beforeS7 hw s.ctx).ctl.MODE (beforeS7 hw s.ctx).flt.Fault_code
          (selected hw (beforeS7 hw s.ctx)).al.Align_stage r } := by
  rw [exec_cycle, cycle_eq] at h
  dsimp only at h
  cases hb : behave hw (hw.freeClamp s.draws)
      (behaviour (beforeS7 hw s.ctx).ctl.MODE (beforeS7 hw s.ctx).flt.Fault_code)
      (beforeS7 hw s.ctx).ctl.MODE (selected hw (beforeS7 hw s.ctx)) with
  | error r => rw [hb] at h; cases h
  | ok r =>
    rw [hb] at h
    injection h with h
    exact ⟨r, rfl, h.symm⟩

/-! ## The parts one at a time -/

/-- One part of the cycle in progress, other than the last. -/
theorem cycStep_part (s : State) (ph ph' : Phase) (l l' : Locals) (c : Context F32)
    (h : s.cyc = some ⟨ph, l⟩) (hn : nextPhase ph = some ph')
    (hp : phaseStep hw (hw.freeClamp s.draws) ph l s.ctx = .ok (l', c)) :
    cycStep s = .next { s with ctx := c, cyc := some ⟨ph', l'⟩ } := by
  simp [cycStep, h, hp, hn]

/-- The last part: the cycle ends, and with it its draws. -/
theorem cycStep_last (s : State) (ph : Phase) (l l' : Locals) (c : Context F32)
    (h : s.cyc = some ⟨ph, l⟩) (hn : nextPhase ph = none)
    (hp : phaseStep hw (hw.freeClamp s.draws) ph l s.ctx = .ok (l', c)) :
    cycStep s = .next { s with ctx := c, cyc := none, draws := s.draws + 1 } := by
  simp [cycStep, h, hp, hn]

theorem cycStep_refused (s : State) (ph : Phase) (l : Locals) (r : Refusal)
    (h : s.cyc = some ⟨ph, l⟩) (hp : phaseStep hw (hw.freeClamp s.draws) ph l s.ctx = .error r) :
    cycStep s = .refused r := by
  simp [cycStep, h, hp]

theorem cycStep_idle (s : State) (h : s.cyc = none) : cycStep s = .next s := by simp [cycStep, h]

end Sys2Proof.Machine
end

