-- ==== Sys2Proof/Laws/PerInstr.lean ====
section
/-! SUPPORT. One lemma for each operation, of its encoding: its command word is legal, names it, and in the
numbering of the opcode table is read back as it. -/

namespace Sys2Proof.Laws.Encoding

open Sys2Proof Sys2Proof.Machine

/-- `30_encoding.md` R81, R82, R85, R88 for one operation. -/
def Statement (i : Instr) : Prop :=
  i.wf = true ∧ (fieldsOf (encode i)).wf = true ∧ decode (encode i) = .ok i ∧
    decodeTableWord 32 (encode i).toNat = some i

theorem nop : Statement .nop := ⟨rfl, by decide, by decide, by decide⟩
theorem initParams : Statement .initParams := ⟨rfl, by decide, by decide, by decide⟩
theorem initCc : Statement .initCc := ⟨rfl, by decide, by decide, by decide⟩
theorem initSc : Statement .initSc := ⟨rfl, by decide, by decide, by decide⟩
theorem initPll : Statement .initPll := ⟨rfl, by decide, by decide, by decide⟩
theorem initEemf : Statement .initEemf := ⟨rfl, by decide, by decide, by decide⟩
theorem initFoo : Statement .initFoo := ⟨rfl, by decide, by decide, by decide⟩
theorem updateGains : Statement .updateGains := ⟨rfl, by decide, by decide, by decide⟩
theorem resetCtrl : Statement .resetCtrl := ⟨rfl, by decide, by decide, by decide⟩
theorem clarke : Statement .clarke := ⟨rfl, by decide, by decide, by decide⟩
theorem park : Statement .park := ⟨rfl, by decide, by decide, by decide⟩
theorem ipark : Statement .ipark := ⟨rfl, by decide, by decide, by decide⟩
theorem iclarke : Statement .iclarke := ⟨rfl, by decide, by decide, by decide⟩
theorem svmOffset : Statement .svmOffset := ⟨rfl, by decide, by decide, by decide⟩
theorem dtComp : Statement .dtComp := ⟨rfl, by decide, by decide, by decide⟩
theorem duty : Statement .duty := ⟨rfl, by decide, by decide, by decide⟩
theorem wrap : Statement .wrap := ⟨rfl, by decide, by decide, by decide⟩
theorem ccStep : Statement .ccStep := ⟨rfl, by decide, by decide, by decide⟩
theorem scStep : Statement .scStep := ⟨rfl, by decide, by decide, by decide⟩
theorem torqueCtrl : Statement .torqueCtrl := ⟨rfl, by decide, by decide, by decide⟩
theorem hallStep : Statement .hallStep := ⟨rfl, by decide, by decide, by decide⟩
theorem fooStepA : Statement .fooStepA := ⟨rfl, by decide, by decide, by decide⟩
theorem fooStepB : Statement .fooStepB := ⟨rfl, by decide, by decide, by decide⟩
theorem eemfStep : Statement .eemfStep := ⟨rfl, by decide, by decide, by decide⟩
theorem alignStep : Statement .alignStep := ⟨rfl, by decide, by decide, by decide⟩
theorem swFaultCheck : Statement .swFaultCheck := ⟨rfl, by decide, by decide, by decide⟩
theorem hwFault : Statement .hwFault := ⟨rfl, by decide, by decide, by decide⟩
theorem faultClear : Statement .faultClear := ⟨rfl, by decide, by decide, by decide⟩
theorem cycle : Statement .cycle := ⟨rfl, by decide, by decide, by decide⟩

end Sys2Proof.Laws.Encoding
end

