-- ==== Sys2Proof/Laws/Encoding.lean ====
section
/-! SUPPORT. The decoder against the checks of WellFormed.lean, which are written from another sentence of
the spec: it accepts exactly the words they accept; and a word is its three fields. -/

namespace Sys2Proof

/-- R80: a command word is its fields. -/
theorem word_eq_fields (w : Word) : w = (fieldsOf w).opc ++ (fieldsOf w).var ++ (fieldsOf w).rsv := by
  apply BitVec.eq_of_getLsbD_eq
  intro i hi
  simp only [fieldsOf, BitVec.getLsbD_append, BitVec.getLsbD_extractLsb']
  split
  · simp_all
  · split
    · rw [show 16 + (i - 16) = i by omega]
      simp; omega
    · rw [show 24 + (i - 16 - 8) = i by omega]
      simp; omega

theorem fieldsOf_inj (v w : Word) (h : fieldsOf v = fieldsOf w) : v = w := by
  rw [word_eq_fields v, word_eq_fields w, h]

/-- R84, R85: an operation code has a row exactly when it is listed. -/
theorem lookup_isSome (opc : BitVec 8) :
    (opRows.lookup opc).isSome = CmdFields.knownOpcs.contains opc := by
  revert opc
  decide +kernel

/-- R81, R82: FOO_STEP's row, and no other, is of format V. -/
theorem lookup_format (opc : BitVec 8) :
    (match opRows.lookup opc with
     | some (.formatN _) => opc != 0x24
     | some (.formatV _ _) => opc == 0x24
     | none => true) = true := by
  revert opc
  decide +kernel

/-- R85 and R88 agree: the decoder accepts a word exactly when the three checks do. -/
theorem decodeFields_ok_iff_wf (f : CmdFields) : (∃ i, decodeFields f = .ok i) ↔ f.wf = true := by
  have h1 := lookup_isSome f.opc
  have h2 := lookup_format f.opc
  unfold decodeFields CmdFields.wf CmdFields.opcKnown CmdFields.varAdmitted CmdFields.rsvZero
  rw [← h1]
  by_cases hr : f.rsv = 0
  · cases hl : opRows.lookup f.opc with
    | none => simp [hr]
    | some row =>
      rw [hl] at h2
      cases row with
      | formatN i =>
        have h2 : f.opc ≠ 0x24 := by simpa using h2
        by_cases hv : f.var = 0 <;> simp_all [decodeVar]
      | formatV i0 i1 =>
        have h2 : f.opc = 0x24 := by simpa using h2
        by_cases h0 : f.var = 0
        · simp_all [decodeVar]
        · by_cases h1 : f.var = 1 <;> simp_all [decodeVar]
  · rw [if_pos hr]
    simpa using fun _ _ _ => hr

theorem decode_ok_iff_wf (w : Word) : (∃ i, decode w = .ok i) ↔ (fieldsOf w).wf = true :=
  decodeFields_ok_iff_wf (fieldsOf w)

end Sys2Proof
end

