-- ==== Sys2Proof/Laws/Reals.lean ====
section
/-! SUPPORT. The reference instance of `NUM` unfolded: `simp` turns a rule over `Reference.params` into an
expression over the real numbers. -/

namespace Sys2Proof.Reference

variable (o : Open)

@[simp] theorem params_ofDecimal (n : Int) (d : Nat) : (params o).ofDecimal n d = (n : ℝ) / (d : ℝ) := rfl
@[simp] theorem params_pi : (params o).pi = Real.pi := rfl
@[simp] theorem params_invSqrt3 : (params o).invSqrt3 = 1 / Real.sqrt 3 := rfl
@[simp] theorem params_sqrt3 : (params o).sqrt3 = Real.sqrt 3 := rfl
@[simp] theorem params_add (a b : ℝ) : (params o).add a b = a + b := rfl
@[simp] theorem params_sub (a b : ℝ) : (params o).sub a b = a - b := rfl
@[simp] theorem params_neg (a : ℝ) : (params o).neg a = -a := rfl
@[simp] theorem params_mul (a b : ℝ) : (params o).mul a b = a * b := rfl
@[simp] theorem params_div (a b : ℝ) : (params o).div a b = a / b := rfl
@[simp] theorem params_lt (a b : ℝ) : (params o).lt a b = decide (a < b) := rfl
@[simp] theorem params_le (a b : ℝ) : (params o).le a b = decide (a ≤ b) := rfl
@[simp] theorem params_eq (a b : ℝ) : (params o).eq a b = decide (a = b) := rfl
@[simp] theorem params_abs (a : ℝ) : (params o).abs a = |a| := rfl
@[simp] theorem params_max (a b : ℝ) : (params o).max a b = max a b := rfl
@[simp] theorem params_min (a b : ℝ) : (params o).min a b = min a b := rfl
@[simp] theorem params_ofInt (n : Nat) : (params o).ofInt n = (n : ℝ) := rfl
@[simp] theorem params_ceil (a : ℝ) : (params o).ceil a = (⌈a⌉ : ℝ) := rfl
@[simp] theorem params_sin (a : ℝ) : (params o).sin a = Real.sin a := rfl
@[simp] theorem params_cos (a : ℝ) : (params o).cos a = Real.cos a := rfl
@[simp] theorem params_atan (a : ℝ) : (params o).atan a = Real.arctan a := rfl
@[simp] theorem params_Ts : (params o).Ts = o.Ts := rfl
@[simp] theorem params_hallGainSel : (params o).hallGainSel = .secondary := rfl

end Sys2Proof.Reference
end

