-- ==== Sys2Proof/Laws/RegFile.lean ====
section
/-! SUPPORT. The register space: a register is at its index and nowhere else (`10_state.md`,
`20_memory.md` R75), and what a HOST read and a HOST write of that index come to (R62, R63). -/

namespace Sys2Proof.Machine

theorem Reg.mem_all (r : Reg) : r ∈ Reg.all := by cases r <;> decide

theorem Reg.index_lt (r : Reg) : r.index < 512 := by
  have h : Reg.all.all (fun r => r.index < 512) = true := by decide
  simpa using List.all_eq_true.1 h r r.mem_all

theorem Reg.at_toNat (r : Reg) : r.at.toNat = r.index := by
  simp [Reg.at, Nat.mod_eq_of_lt r.index_lt]

/-- A register found at an index has that index. -/
theorem Reg.index_of_ofIndex (i : RegIndex) (r : Reg) (h : Reg.ofIndex i = some r) :
    r.index = i.toNat := by
  simpa using List.find?_some h

/-- A check that a list has no repeats, one pass with the numbers seen so far as bits. -/
def distinctBits : List Nat → Nat → Bool
  | [], _ => true
  | n :: ns, seen => !seen.testBit n && distinctBits ns (seen ||| 2 ^ n)

theorem nodup_of_distinctBits (ns : List Nat) (seen : Nat) (h : distinctBits ns seen = true) :
    (∀ n ∈ ns, seen.testBit n = false) ∧ ns.Nodup := by
  induction ns generalizing seen with
  | nil => simp
  | cons n ns ih =>
    simp only [distinctBits, Bool.and_eq_true, Bool.not_eq_true'] at h
    obtain ⟨h1, h2⟩ := ih _ h.2
    simp only [Nat.testBit_or, Bool.or_eq_false_iff] at h1
    refine ⟨?_, List.nodup_cons.2 ⟨fun hn => ?_, h2⟩⟩
    · intro m hm
      rcases List.mem_cons.1 hm with rfl | hm
      · exact h.1
      · exact (h1 m hm).1
    · exact absurd (h1 n hn).2 (by simp)

/-- No two registers share an index. -/
theorem Reg.index_inj (q r : Reg) (h : q.index = r.index) : q = r := by
  have hn := (nodup_of_distinctBits (Reg.all.map Reg.index) 0 (by decide +kernel)).2
  exact List.inj_on_of_nodup_map hn q.mem_all r.mem_all h

theorem Reg.ofIndex_at (r : Reg) : Reg.ofIndex r.at = some r := by
  cases h : Reg.ofIndex r.at with
  | none =>
    have := List.find?_eq_none.1 h r r.mem_all
    simp [Reg.at_toNat] at this
  | some q =>
    have := Reg.index_of_ofIndex _ _ h
    rw [Reg.at_toNat] at this
    rw [Reg.index_inj q r this]

theorem Reg.ofIndex_eq_some (i : RegIndex) (r : Reg) : Reg.ofIndex i = some r ↔ r.index = i.toNat := by
  refine ⟨Reg.index_of_ofIndex i r, fun h => ?_⟩
  have : i = r.at := by
    apply BitVec.eq_of_toNat_eq
    rw [Reg.at_toNat, h]
  rw [this, Reg.ofIndex_at]

theorem Reg.ofIndex_eq_none (i : RegIndex) :
    Reg.ofIndex i = none ↔ ∀ r : Reg, r.index ≠ i.toNat := by
  refine ⟨fun h r hr => ?_, fun h => ?_⟩
  · rw [(Reg.ofIndex_eq_some i r).2 hr] at h
    cases h
  · cases hf : Reg.ofIndex i with
    | none => rfl
    | some r => exact absurd (Reg.index_of_ofIndex i r hf) (h r)

theorem regRead_at (c : Context F32) (r : Reg) : regRead c r.at = c.read r := by
  simp [regRead, Reg.ofIndex_at]

theorem regStore_at (c : Context F32) (r : Reg) (v : Word) : regStore c r.at v = c.hostStore v r := by
  simp [regStore, Reg.ofIndex_at]

theorem Reg.at_eq_cmdIndex (r : Reg) : r.at = cmdIndex ↔ r = .CMD := by
  refine ⟨fun h => ?_, fun h => by subst h; rfl⟩
  have := congrArg Reg.ofIndex h
  rw [Reg.ofIndex_at, show Reg.ofIndex cmdIndex = some .CMD from rfl] at this
  exact Option.some.inj this

/-- R67: a HOST write to a register of class RO leaves the register file as it is. -/
theorem Context.hostStore_readOnly (c : Context F32) (v : Word) (r : Reg) (h : r.hostClass = .RO) :
    c.hostStore v r = c := by
  cases r <;> first | rfl | exact absurd h (by decide)

/-- R47, R67: a write to an index with no register leaves the register file as it is. -/
theorem regStore_absent (c : Context F32) (i : RegIndex) (v : Word) (h : Reg.ofIndex i = none) :
    regStore c i v = c := by
  simp [regStore, h]

/-- R22: no HOST write reaches a group whose registers are all of class RO, and none reaches a group that
does not hold the register written. -/
theorem Context.hostStore_groups (c : Context F32) (v : Word) (r : Reg) :
    (c.hostStore v r).r = c.r ∧ (c.hostStore v r).par = c.par ∧ (c.hostStore v r).gain = c.gain ∧
    (c.hostStore v r).cal = c.cal ∧ (c.hostStore v r).cc = c.cc ∧ (c.hostStore v r).md = c.md ∧
    (c.hostStore v r).sl = c.sl ∧ (c.hostStore v r).sc = c.sc ∧ (c.hostStore v r).hall = c.hall ∧
    (c.hostStore v r).foo = c.foo ∧ (c.hostStore v r).eemf = c.eemf ∧
    (c.hostStore v r).al = c.al ∧ (c.hostStore v r).flt = c.flt ∧ (c.hostStore v r).out = c.out ∧
    (r ∉ Reg.ctlRegs → (c.hostStore v r).ctl = c.ctl) ∧
    (r ∉ Reg.aRegs → (c.hostStore v r).a = c.a) ∧ (r ∉ Reg.bwRegs → (c.hostStore v r).bw = c.bw) ∧
    (r ∉ Reg.tunRegs → (c.hostStore v r).tun = c.tun) ∧
    (r ∉ Reg.smpRegs → (c.hostStore v r).smp = c.smp) ∧
    (r ∉ Reg.measRegs → (c.hostStore v r).meas = c.meas) ∧
    (r ∉ Reg.spRegs → (c.hostStore v r).sp = c.sp) := by
  unfold Context.hostStore
  split <;>
    refine ⟨rfl, rfl, rfl, rfl, rfl, rfl, rfl, rfl, rfl, rfl, rfl, rfl, rfl, rfl,
      ?_, ?_, ?_, ?_, ?_, ?_, ?_⟩ <;>
    first | exact fun _ => rfl | exact fun h => absurd (by decide) h

/-! ## The byte-addressed presentation -/

/-- R61: byte address `4·i` is the register at index `i`. -/
theorem busIndex_four_mul (i : RegIndex) : busIndex (BitVec.ofNat 11 (4 * i.toNat)) = i := by
  revert i
  decide +kernel

theorem busAligned_four_mul (i : RegIndex) : busAligned (BitVec.ofNat 11 (4 * i.toNat)) 4 = true := by
  revert i
  decide +kernel

/-- R76: every other shape. -/
theorem busAligned_false (a : BitVec 11) (n : Nat) (h : a.toNat % 4 ≠ 0 ∨ n ≠ 4) :
    busAligned a n = false := by
  have h4 : ∀ a : BitVec 11, a.toNat % 4 ≠ 0 → (a.extractLsb' 0 2 == 0#2) = false := by
    decide +kernel
  rcases h with h | h
  · simp [busAligned, h4 a h]
  · simp [busAligned, h]

/-- R61: the first byte is bits 7 to 0. -/
theorem wordOfBytes_four (b0 b1 b2 b3 : Byte) :
    wordOfBytes [b0, b1, b2, b3] = b3 ++ b2 ++ b1 ++ b0 := by
  have e : ∀ i, (b3 ++ b2 ++ b1 ++ b0).getLsbD i =
      if i < 8 then b0.getLsbD i else if i - 8 < 8 then b1.getLsbD (i - 8) else
        if i - 8 - 8 < 8 then b2.getLsbD (i - 8 - 8) else b3.getLsbD (i - 8 - 8 - 8) := by
    intro i
    rw [BitVec.getLsbD_append, BitVec.getLsbD_append, BitVec.getLsbD_append]
  refine BitVec.eq_of_getLsbD_eq fun i hi => Eq.trans ?_ (e i).symm
  have h0 : i - 8 < 32 := by omega
  have h1 : i - 8 - 8 < 32 := by omega
  have h2 : i - 8 - 8 - 8 < 32 := by omega
  simp only [wordOfBytes, BitVec.getLsbD_or, BitVec.getLsbD_setWidth, BitVec.getLsbD_shiftLeft, hi, h0,
    h1, h2, decide_true, Bool.true_and]
  rcases Nat.lt_or_ge i 8 with h | h
  · simp [h]
  · rw [BitVec.getLsbD_of_ge b0 i h]
    rcases Nat.lt_or_ge (i - 8) 8 with h | h
    · simp_all
    · rw [BitVec.getLsbD_of_ge b1 _ h]
      rcases Nat.lt_or_ge (i - 8 - 8) 8 with h | h
      · simp_all
      · rw [BitVec.getLsbD_of_ge b2 _ h]
        simp_all

end Sys2Proof.Machine
end

