-- ==== Sys2Proof/Tests/Slice0.lean ====
section
/-! SUPPORT. Tests of the model, each expected value taken from the vectors of `95_test_vectors.md` or
computed by hand in binary32 from the rules (log entry 12), and for every statement with hypotheses a
witness that meets them. -/

open Sys2Proof
open Sys2Proof.Machine

namespace Sys2Proof.Tests

-- One declaration at a time: the checks of many small theorems at once need a thread each.
set_option Elab.async false

/-! ## Helpers -/

/-- The register file of a next state. -/
def ctxOf : Host.Outcome State Fault Refusal → Option (Context F32)
  | .next t => some t.ctx
  | .fault _ => none
  | .refused _ => none

/-- What registers read as in a next state. -/
def regsOf (o : Host.Outcome State Fault Refusal) (rs : List Reg) : Option (List Word) :=
  (ctxOf o).map (fun c => rs.map c.read)

/-- The refusal of an outcome. -/
def refusalOf : Host.Outcome State Fault Refusal → Option Refusal
  | .next _ => none
  | .fault _ => none
  | .refused r => some r

/-- What registers read as in a register file that an operation over `tp` ends in. -/
def regsIn (x : Except Refusal (Context F32)) (rs : List Reg) : Option (List Word) :=
  match x with
  | .ok c => some (rs.map c.read)
  | .error _ => none

/-- The register file right after reset. -/
def c0 : Context F32 := State.reset.ctx

/-- A register file with no cycle in progress and nothing to come. -/
def st (c : Context F32) : State := { State.reset with ctx := c }

/-- Four operands in A0 to A3. -/
def args (a b c d : F32) : ArgRegs F32 := ⟨a, b, c, d, 0, 0, 0, 0, 0, 0, 0, 0⟩

/-- A state with these operands and everything else as at reset. -/
def withArgs (a b c d : F32) : State := st { c0 with a := args a b c d }

/-- The parameters of the standard set of `95_test_vectors.md` section 0, with Kt and INV_Kt. -/
def stdPar : ParamSet F32 :=
  { Rs := 0x3D4CCCCD, Ld := 0x3951B717, Lq := 0x399D4952, Lamf := 0x3C23D70A, PP := 0x40800000
    Jm := 0x3A83126F, Bm := 0, I_align := 0x40A00000, I_rated := 0x41200000, I_limit := 0x41A00000
    Wrpm_rated := 0x453B8000, Te_rated := 0x3F000000, Kt := 0x3D75C28F, INV_Kt := 0x41855556 }

/-- The gains of the standard set (section 0, binary32). -/
def stdGain : Gains F32 :=
  { Kpd := 0x3ECCCCCC, Kid := 0x42C80000, Kpq := 0x3F19999A, Kiq := 0x42C80000, Kp_sc := 0x3DCCCCCD
    Ki_sc := 0x40200000, Kp_pll := 0x430D6667, Ki_pll := 0x461C4000, Kp_hall := 0x42B1B041
    Ki_hall := 0x4576BD79, K1 := 0x41A00000, K2 := 0x3E4CCCCD, K3 := 0x3F800000
    Kp_eemf := 0x3E4CCCCC, Ki_eemf := 0x42480000 }

/-- The register file after BOOT, but for A0 to A11. -/
def cBoot : Context F32 :=
  { c0 with
    par := stdPar, gain := stdGain
    bw := ⟨0x44FA0000, 0x42C80000, 0x42C80000, 0x447A0000, 0x41200000⟩ }

/-- The parameters of the vectors: Ts = 0.0001 and RES_COMP = 0 (section 0); the sine and cosine are
those of the angle 0, which is the only one the tests rotate by. The other functions are placeholders
for the open ones. -/
def tp : Params F32 :=
  { hw with
    Ts := 0x38D1B717
    resComp := fun _ _ _ _ => 0
    sin := fun _ => 0
    cos := fun _ => 0x3F800000
    atan := fun x => Binary32.add x 0x3F800000
    atan2 := fun y _ => y
    hallTestVec := fun k => (Binary32.ofNat k.toNat, 0, 0)
    freeClamp := fun _ _ => 0x7F800000 }

/-! ## Well-formedness: each check refuses an ill-formed term -/

theorem test_wf_refuses_unknown_opc : CmdFields.wf ⟨0x09, 0, 0⟩ = false ∧
    CmdFields.opcKnown ⟨0x09, 0, 0⟩ = false := by decide
theorem test_wf_refuses_variant_of_format_n : CmdFields.wf ⟨0x10, 1, 0⟩ = false ∧
    CmdFields.varAdmitted ⟨0x10, 1, 0⟩ = false := by decide
theorem test_wf_refuses_foo_variant_two : CmdFields.wf ⟨0x24, 2, 0⟩ = false ∧
    CmdFields.varAdmitted ⟨0x24, 2, 0⟩ = false := by decide
theorem test_wf_refuses_reserved_bit : CmdFields.wf ⟨0x40, 0, 1⟩ = false ∧
    CmdFields.rsvZero ⟨0x40, 0, 1⟩ = false := by decide
theorem test_wf_accepts_foo_variant_one : CmdFields.wf ⟨0x24, 1, 0⟩ = true := by decide

/-! ## Decoding: the words of `30_encoding.md` R84, the opc in bits 31 to 24, the var in 23 to 16 -/

theorem test_decode_group0 :
    decode 0x00000000 = .ok .nop ∧ decode 0x01000000 = .ok .initParams ∧
    decode 0x02000000 = .ok .initCc ∧ decode 0x03000000 = .ok .initSc ∧
    decode 0x04000000 = .ok .initPll ∧ decode 0x05000000 = .ok .initEemf ∧
    decode 0x06000000 = .ok .initFoo ∧ decode 0x07000000 = .ok .updateGains ∧
    decode 0x08000000 = .ok .resetCtrl := by decide
theorem test_decode_group1 :
    decode 0x10000000 = .ok .clarke ∧ decode 0x11000000 = .ok .park ∧
    decode 0x12000000 = .ok .ipark ∧ decode 0x13000000 = .ok .iclarke ∧
    decode 0x14000000 = .ok .svmOffset ∧ decode 0x15000000 = .ok .dtComp ∧
    decode 0x16000000 = .ok .duty ∧ decode 0x17000000 = .ok .wrap := by decide
theorem test_decode_group2 :
    decode 0x20000000 = .ok .ccStep ∧ decode 0x21000000 = .ok .scStep ∧
    decode 0x22000000 = .ok .torqueCtrl ∧ decode 0x23000000 = .ok .hallStep ∧
    decode 0x24000000 = .ok .fooStepA ∧ decode 0x24010000 = .ok .fooStepB ∧
    decode 0x25000000 = .ok .eemfStep ∧ decode 0x26000000 = .ok .alignStep := by decide
theorem test_decode_group34 :
    decode 0x30000000 = .ok .swFaultCheck ∧ decode 0x31000000 = .ok .hwFault ∧
    decode 0x32000000 = .ok .faultClear ∧ decode 0x40000000 = .ok .cycle := by decide
/-- Vector D-i. -/
theorem test_decode_illegal :
    decode 0x09000000 = .error .unknownOpc ∧ decode 0x10010000 = .error .variantNotAdmitted ∧
    decode 0x24020000 = .error .variantNotAdmitted ∧ decode 0x40000001 = .error .reservedBits := by
  decide
theorem test_table_word : decodeTableWord 32 0x24010000 = some .fooStepB ∧
    decodeTableWord 32 0x33000000 = none := by decide
theorem test_fetch_word_runs : (ctxOf (step (State.reset.withFetchWord 32 0x31000000))).map
    (fun c => (c.ctl.CMD, c.flt.Fault_code)) = some (0x31000000#32, 1#2) := by decide +kernel

/-! ## Binary32 constants: the patterns of `95_test_vectors.md` -/

theorem test_decimal_patterns :
    hw.ofDecimal 1 10000 = 0x38D1B717#32 ∧ hw.ofDecimal 707 1000 = 0x3F34FDF4#32 ∧
    hw.ofDecimal 819 10 = 0x42A3CCCD#32 ∧ hw.ofDecimal 2034 10 = 0x434B6666#32 ∧
    hw.ofDecimal (-1) 2 = 0xBF000000#32 ∧ hw.ofInt 4095 = 0x457FF000#32 := by decide +kernel

/-! ## Parameter and gain model (section 2.1) -/

theorem test_nop : exec .nop State.reset = .next State.reset := rfl
theorem test_init_params : regsOf (exec .initParams (st { c0 with
      a := ⟨0x3D4CCCCD, 0x3951B717, 0x399D4952, 0x3C23D70A, 0x40800000, 0x3A83126F, 0, 0x40A00000,
        0x41200000, 0x41A00000, 0x453B8000, 0x3F000000⟩ }))
      [.Rs, .PP, .I_align, .Te_rated, .Kt, .INV_Kt, .Kpd] =
    some [0x3D4CCCCD, 0x40800000, 0x40A00000, 0x3F000000, 0x3D75C28F, 0x41855556, 0] := by
  decide +kernel
theorem test_init_params_zero_poles : regsOf (exec .initParams State.reset) [.Kt, .INV_Kt] =
    some [0, 0x7F800000] := by decide +kernel
theorem test_init_cc : regsOf (exec .initCc (st { cBoot with
      a := args 0x44FA0000 0 0 0, gain := c0.gain, cc.Vqsr_integ := 0x404CCCCD
      out := ⟨0x3F333333, 0, 0, true⟩ }))
      [.Wcc, .Kpd, .Kid, .Kpq, .Kiq, .Vqsr_integ, .Duty_a, .PWM_EN] =
    some [0x44FA0000, 0x3ECCCCCC, 0x42C80000, 0x3F19999A, 0x42C80000, 0, 0, 1] := by decide +kernel
theorem test_init_cc_before_params : regsOf (exec .initCc (withArgs 0x44FA0000 0 0 0))
      [.Kpd, .Kid, .Kpq, .Kiq] = some [0, 0, 0, 0] := by decide +kernel
theorem test_init_sc : regsOf (exec .initSc (st { cBoot with a := args 0x42C80000 0x42F6CCCD 0 0 }))
      [.Wsc, .Kp_sc, .Ki_sc] = some [0x42C80000, 0x3DCCCCCD, 0x40200000] := by decide +kernel
theorem test_init_pll : regsOf (exec .initPll (withArgs 0x42C80000 0 0 0))
      [.Wpll, .Kp_pll, .Ki_pll, .Kp_hall, .Ki_hall] =
    some [0x42C80000, 0x430D6667, 0x461C4000, 0x42B1B041, 0x4576BD79] := by decide +kernel
theorem test_init_eemf : regsOf (exec .initEemf (st { cBoot with a := args 0x447A0000 0 0 0 }))
      [.Wc_eemf, .Kp_eemf, .Ki_eemf] = some [0x447A0000, 0x3E4CCCCC, 0x42480000] := by decide +kernel
theorem test_init_foo : regsOf (exec .initFoo (st { cBoot with a := args 0x41200000 0 0 0 }))
      [.Beta_foo, .K1, .K2, .K3] = some [0x41200000, 0x41A00000, 0x3E4CCCCD, 0x3F800000] := by
  decide +kernel
theorem test_update_gains : regsOf (exec .updateGains (st { cBoot with bw.Wcc := 0x457A0000 }))
      [.Kpd, .Kid, .Kpq, .Kiq, .K1, .Kp_hall] =
    some [0x3F4CCCCC, 0x43480000, 0x3F99999A, 0x43480000, 0x41A00000, 0x42B1B041] := by decide +kernel
theorem test_reset_ctrl : regsOf (exec .resetCtrl (st { c0 with
      cc.Vqsr_integ := 0x404CCCCD, sc.Te_integ := 0xBF800000, sp.Theta_ol := 0x40000000
      sp.Duty_test_a := 0x3E99999A, hall.Thetar_hall := 0x3F800000, out := ⟨0x3F19999A, 0, 0, true⟩ }))
      [.Vqsr_integ, .Te_integ, .Theta_ol, .Duty_test_a, .Thetar_hall, .Duty_a, .PWM_EN] =
    some [0, 0, 0, 0, 0x3F800000, 0x3F19999A, 1] := by decide +kernel

/-! ## Transforms and modulation (sections 2.2, 3.5) -/

theorem test_clarke : regsOf (exec .clarke (withArgs 0x3F800000 0xBF000000 0xBF000000 0)) [.R0, .R1] =
    some [0x3F800000, 0] := by decide +kernel
theorem test_clarke_beta : regsOf (exec .clarke (withArgs 0 0x3F800000 0xBF800000 0)) [.R0, .R1] =
    some [0, 0x3F93CD3A] := by decide +kernel
theorem test_park : regsOf (exec .park (withArgs 0x3F800000 0 0x3F800000 0)) [.R0, .R1] =
    some [0, 0xBF800000] := by decide +kernel
theorem test_ipark : regsOf (exec .ipark (withArgs 0x3F800000 0 0x3F800000 0)) [.R0, .R1] =
    some [0, 0x3F800000] := by decide +kernel
theorem test_ipark_q : regsOf (exec .ipark (withArgs 0 0x3F800000 0 0x3F800000)) [.R0, .R1] =
    some [0, 0x3F800000] := by decide +kernel
theorem test_iclarke : regsOf (exec .iclarke (withArgs 0x3F800000 0 0 0)) [.R0, .R1, .R2] =
    some [0x3F800000, 0xBF000000, 0xBF000000] := by decide +kernel
theorem test_iclarke_beta : regsOf (exec .iclarke (withArgs 0 0x3F800000 0 0)) [.R1, .R2] =
    some [0x3F5DB3D7, 0xBF5DB3D7] := by decide +kernel
theorem test_svm_offset : regsOf (exec .svmOffset (withArgs 0x40400000 0x3F800000 0xBF800000 0))
      [.R0, .R1, .R2, .R3] = some [0xBF800000, 0x40000000, 0, 0xC0000000] := by decide +kernel
/-- The order of the operators of R126, with `x + 1` for the arctangent: 2 · ((3 · 0.5) + 1). -/
theorem test_dt_comp : dtComp tp 0x40000000 0x40400000 0x3F000000 = 0x40A00000#32 := by decide +kernel
theorem test_duty : regsOf (exec .duty (withArgs 0x40400000 0x41400000 0 0)) [.R0] =
    some [0x3F400000] := by decide +kernel
theorem test_duty_clamped : regsOf (exec .duty (withArgs 0xC1100000 0x41400000 0 0)) [.R0] =
    some [0] := by decide +kernel
theorem test_wrap : regsOf (exec .wrap (withArgs 0x40800000 0 0 0)) [.R0] = some [0xC0121FB6] := by
  decide +kernel
theorem test_wrap_minus_pi : regsOf (exec .wrap (withArgs 0xC0490FDB 0 0 0)) [.R0] =
    some [0x40490FDB] := by decide +kernel

/-! ## Controllers (sections 2.3, 2.4) -/

/-- Vector CC-a. -/
theorem test_cc_step : regsIn (ccStep tp (tp.freeClamp 0) false 0 0x3F800000 0 0
      { cBoot with meas.Vdc := 0x41400000 })
      [.Iqsr_err, .Vqsr_integ, .Vqsr_ref, .Vqsr_aw, .Vbs_ref, .Duty_a, .Duty_b, .Duty_c, .PWM_EN] =
    some [0x3F800000, 0x3C23D70A, 0x3F1C28F6, 0, 0x3F073D10, 0x3F000000, 0x3F0B4517, 0x3EE975D3, 1] := by
  decide +kernel
/-- Vectors CC-d and CC-e. -/
theorem test_cc_step_latched_and_refused :
    regsIn (ccStep tp (tp.freeClamp 0) false 0 0x3F800000 0 0
      { cBoot with meas.Vdc := 0x41400000, flt.Fault_code := 1 }) [.Duty_b, .PWM_EN] =
      some [0x3F0B4517, 0] ∧
    refusalOf (exec .ccStep (st { cBoot with tun.CC_LPF := 0x3DCCCCCD })) = some .smoothing := by
  decide +kernel
/-- Vector SC-a. -/
theorem test_sc_step : (scStep tp (tp.freeClamp 0) 0x447A0000 0 cBoot).sc =
    { Wrm_ref := 0x3D00ADFD, Wrm := 0, Wrm_err := 0x3D00ADFD, Te_integ := 0x3703C498
      Te_ref_unsat := 0x3B4E66F4, Te_ref := 0x3B4E66F4, Te_aw := 0 } := by decide +kernel
/-- Vectors SC-b and SC-b2: 149.9 is inside the dead-zone, 150 on its edge. -/
theorem test_sc_step_dead_zone :
    (scStep tp (tp.freeClamp 0) 0x4315E666 0 cBoot).sc.Wrm_ref = 0#32 ∧
    (scStep tp (tp.freeClamp 0) 0x43160000 0 cBoot).sc.Wrm_ref = 0x3D00ADFD#32 := by decide +kernel
/-- SP8 in binary32. -/
theorem test_torque_ctrl : regsOf (exec .torqueCtrl (st { cBoot with a := args 0x3E4CCCCD 0 0 0 }))
      [.Te_ref, .Te_integ] = some [0x3EFFFFFF, 0] := by decide +kernel
/-- Vector TQ-c. -/
theorem test_torque_ctrl_dead_zone : regsOf (exec .torqueCtrl (st { cBoot with
      a := args 0x3E1C0EBF 0 0 0, sc.Te_ref := 0x3F800000 })) [.Te_ref] = some [0] := by decide +kernel

/-! ## Observers (sections 2.5, 2.6, 2.7) -/

/-- Vector H-a. -/
theorem test_hall_step : (hallStep tp { cBoot with smp.HALL_IN := 4 }).hall =
    { Hall_code := 4, Theta_hall_ref := 0x3F860A92, Theta_hall_err := 0x3F860A92
      W_hall_integ := 0x3ED3AB66, Thetar_hall := 0x3C191C25, Wr_hall := 0x42BAE6DB } := by
  decide +kernel
/-- Vector H-b: code 7 holds the reference and the loop goes on. -/
theorem test_hall_step_holds : (hallStep tp { cBoot with
      smp.HALL_IN := 7, hall := ⟨4, 0x3F860A92, 0x3F860A92, 0x3ED3AB66, 0x3C191C25, 0x42BAE6DB⟩ }).hall =
    { Hall_code := 7, Theta_hall_ref := 0x3F860A92, Theta_hall_err := 0x3F84D85A
      W_hall_integ := 0x3F52B99E, Thetar_hall := 0x3C98C3F4, Wr_hall := 0x42BA0F8C } := by
  decide +kernel
/-- Vector F-a. -/
theorem test_foo_step_a : (fooStep tp .A 0x3C23D70A cBoot).foo =
    { Thetarm_est := 0x37A7F0A4, Thetar_est := 0x38A7F0A4, Wrm_est := 0x3951D1EE
      Wrm_integ := 0x3951D1EE, Te_est := 0x3B03126F, Te_ff := 0, Tl_integ := 0x358637BD
      Tl_est := 0xB58637BD, Thetarm_err := 0x3C23D70A } := by decide +kernel
/-- Vector F-b. -/
theorem test_foo_step_b : (fooStep tp .B 0x3C23D70A cBoot).foo =
    { (fooStep tp .A 0x3C23D70A cBoot).foo with Wrm_est := 0x3E4D0140 } := by decide +kernel
/-- Vector E-c, rows 1 and 2: a q estimate inside the band becomes +1, one of -1 stays. -/
theorem test_eemf_floor :
    (eemfStep tp 0 0 { cBoot with eemf.EEMFq_integ := 0xBF000000 }).eemf.EEMFq_est = 0x3F800000#32 ∧
    (eemfStep tp 0 0 { cBoot with eemf.EEMFq_integ := 0xBF800000 }).eemf.EEMFq_est = 0xBF800000#32 := by
  decide +kernel
/-- Vector E-a: the gains, the rotated currents, the d integrator, and the references kept. -/
theorem test_eemf_step :
    let c := eemfStep tp 0 0 { cBoot with
      gain := c0.gain, meas.Ia := 0x3F800000, meas.Ib := 0xBF000000, meas.Ic := 0xBF000000
      md.Vdss_ref := 0x40000000, md.Vqss_ref := 0x40800000 }
    (c.gain.Kp_eemf, c.gain.Ki_eemf, c.eemf.Vdse, c.eemf.Vqse, c.eemf.Idse, c.eemf.Iqse) =
      (0x3E4CCCCC#32, 0x42480000#32, 0x3F800000#32, 0x40000000#32, 0x3F800000#32, 0#32) ∧
    (c.eemf.Vdss_ref_old, c.eemf.Vqss_ref_old) = (0x40000000#32, 0x40800000#32) := by decide +kernel

/-! ## Alignment (section 2.8) -/

/-- Call 1. -/
theorem test_align_init : regsIn (alignStep tp (tp.freeClamp 0) false { cBoot with
      al := ⟨0, 0x40A00000, true⟩, sl := ⟨0x3F800000, 0x3F800000⟩ })
      [.Thetar_sel, .Wr_sel, .Idsr_ref, .Align_done, .Align_stage, .Align_time, .PWM_EN] =
    some [0, 0, 0x40A00000, 0, 1, 0x38D1B717, 0] := by decide +kernel
/-- The last call: the Decay stage ends once Align_time reaches T_ALIGN2. -/
theorem test_align_completes : regsIn (alignStep tp (tp.freeClamp 0) false { cBoot with
      al := ⟨2, 0x40A00000, false⟩, meas.Vdc := 0x41400000, ctl.MODE := 0x201
      cc.Idsr_ref := 0x40A00000 })
      [.Idsr_ref, .Align_done, .Align_stage, .MODE, .PWM_EN] = some [0, 1, 0, 1, 1] := by decide +kernel

/-! ## Fault supervisor (section 2.9) -/

/-- Vector FS-a. -/
theorem test_sw_fault_trips : regsOf (exec .swFaultCheck (st { c0 with
      ctl.MODE := 5, meas := ⟨0xC2A00000, 0, 0, 0x41400000, 0, 0x3FC00000⟩, sl.Wr_sel := 0x43960000
      out := ⟨0x3F19999A, 0x3F000000, 0x3ECCCCCD, true⟩ }))
      [.PWM_EN, .Duty_a, .MODE, .Fault_code, .F_Vdc, .F_Idc, .F_Ia, .F_Ib, .F_Wr, .Fault_cnt] =
    some [0, 0, 6, 2, 0x41400000, 0x3FC00000, 0xC2A00000, 0, 0x43960000, 1] := by decide +kernel
/-- Vectors FS-b and FS-d. -/
theorem test_sw_fault_edge_and_priority :
    regsOf (exec .swFaultCheck (st { c0 with meas.Ia := 0x429FFAE1, meas.Ib := 0xC29FFAE1 }))
      [.Fault_code, .Fault_cnt] = some [0, 0] ∧
    regsOf (exec .swFaultCheck (st { c0 with
      meas.Ia := 0x42B40000, flt.Fault_code := 1, flt.Fault_cnt := 4 })) [.Fault_code, .Fault_cnt, .F_Ia] =
      some [1, 5, 0x42B40000] := by decide +kernel
/-- Vector FS-c. -/
theorem test_hw_fault : regsOf (exec .hwFault (st { c0 with
      ctl.MODE := 5, flt.Fault_code := 2, flt.Fault_cnt := 3, out := ⟨0x3F19999A, 0, 0, true⟩ }))
      [.Fault_code, .Fault_cnt, .PWM_EN, .Duty_a, .MODE] = some [1, 4, 0, 0, 6] := by decide +kernel
/-- Vector FS-g. -/
theorem test_hw_fault_count_wraps : regsOf (exec .hwFault (st { c0 with flt.Fault_cnt := 0xFFFFFFFF }))
      [.Fault_cnt] = some [0] := by decide +kernel
/-- Vector FS-e. -/
theorem test_fault_clear : regsOf (exec .faultClear (st { c0 with
      ctl.MODE := 2, flt.Fault_code := 1, flt.Fault_cnt := 5, flt.F_Ia := 0x42B40000 }))
      [.Fault_code, .MODE, .Fault_cnt, .F_Ia] = some [0, 0, 5, 0x42B40000] := by decide +kernel

/-! ## The cycle (sections 2.10, 3.1, 3.3, 3.6) -/

/-- Vector D-a. -/
theorem test_cycle_from_reset : regsIn (cycle tp (tp.freeClamp 0) { c0 with
      smp.ADC_RAW0 := 2048, smp.ADC_RAW1 := 2048, smp.ADC_RAW2 := 2048, smp.ADC_RAW3 := 2034 })
      [.CYCLE_CNT, .CAL_CNT, .CAL_DONE, .Kp_hall, .Ki_hall, .Hall_code, .PWM_EN, .Thetar_hall, .Ia] =
    some [1, 1, 0, 0x42B1B041, 0x4576BD79, 0, 0, 0, 0] := by decide +kernel
/-- Program P3, cycle 10,002: the conversion with gain 4 trips the overcurrent check. -/
theorem test_cycle_overcurrent : regsIn (cycle tp (tp.freeClamp 0) { c0 with
      ctl.MODE := 5, smp.ADC_RAW0 := 4095, smp.ADC_RAW3 := 2441, smp.ADC_GAIN0 := 0x40800000
      cal := ⟨0x45000000, 0, 0, 0, 0, 0, 10000, true⟩ })
      [.Ia, .Vdc, .Fault_code, .Fault_cnt, .F_Ia, .F_Vdc, .PWM_EN, .MODE, .CAL_CNT] =
    some [0x42C7F37F, 0x3C449F20, 2, 1, 0x42C7F37F, 0x3C449F20, 0, 2, 10000] := by decide +kernel

/-- The state of program P1 after its statement 5, with these inputs to come. -/
def p1 (xs : List Input) : State :=
  { st { cBoot with
      ctl.MODE := 0x11, sp.Duty_test_a := 0x3E800000, sp.Duty_test_b := 0x3F000000
      sp.Duty_test_c := 0x3FC00000 } with inputs := xs }

/-- Program P1, statement 6: the duty test. -/
theorem test_duty_test_behaviour : behave tp (tp.freeClamp 0) .DUTY_TEST 0x11 (p1 []).ctx =
    .ok ({ (p1 []).ctx with out := ⟨0x3E800000, 0x3F000000, 0x3F800000, false⟩ }, true) := by
  decide +kernel
/-- Vector D-g: the two undescribed modes, and that a higher flag hides them. -/
theorem test_undescribed_modes : behaviour 0x41 0 = .VREF_GEN ∧ behaviour 0x101 0 = .PARAM_EST ∧
    behaviour 0x45 0 = .RUN ∧ behaviour 0x41 2 = .IDLE := by decide
/-- Vector D-h. -/
theorem test_hall_test_behaviour :
    behave tp (tp.freeClamp 0) .HALL_TEST 9 { c0 with out := ⟨1, 1, 1, true⟩ } =
      .ok ({ c0 with out := ⟨0, 0, 0, false⟩ }, false) ∧
    behave tp (tp.freeClamp 0) .HALL_TEST 9 { c0 with sp.Hall_test_sel := 3 } =
      .ok ({ c0 with sp.Hall_test_sel := 3, out := ⟨0x40400000, 0, 0, false⟩ }, true) := by decide +kernel

/-! ## Host accesses (section 3.5) -/

/-- The state after the first step on one input. -/
def one (c : Context F32) (x : Input) : Host.Outcome State Fault Refusal :=
  step { st c with inputs := [x] }

theorem test_write_read_only : regsOf (one c0 (.hostWrite 0x020 0x3F800000)) [.Rs] = some [0] := by
  decide +kernel
theorem test_write_mode : regsOf (one c0 (.hostWrite 0x002 0xFFFFFFFF)) [.MODE] =
    some [0xFFFFFFFD] := by decide +kernel
theorem test_write_status : regsOf (one { c0 with ctl.CMD_ILLEGAL := true } (.hostWrite 0x001 1))
    [.STATUS] = some [0] := by decide +kernel
theorem test_write_adc : regsOf (one c0 (.hostWrite 0x060 0xFFFF)) [.ADC_RAW0] = some [0xFFF] := by
  decide +kernel
theorem test_bus_write_little_endian :
    regsOf (one c0 (.busWrite 0x020 [0x00, 0x00, 0x80, 0x3F])) [.A0] = some [0x3F800000] := by
  decide +kernel
theorem test_pseudo_duty : pseudo .duty [0x40400000, 0x41400000] =
    some [.WR .A0 0x40400000, .WR .A1 0x41400000, .CMD .duty] ∧ pseudo .duty [0] = none ∧
    (Stmt.WR .A0 0x40400000).inputs = [.hostWrite 0x008 0x40400000] ∧
    (Stmt.CMD .duty).inputs = [.hostWrite 0 0x16000000] ∧
    (setMode [.READY, .DUTY_TEST]).inputs = [.hostWrite 2 0x11] := by decide

/-! ## Witnesses: the hypotheses of the statements can be met -/

theorem next_of_ctxOf (o : Host.Outcome State Fault Refusal) (h : (ctxOf o).isSome = true) :
    ∃ t, o = .next t := by
  cases o with
  | next t => exact ⟨t, rfl⟩
  | fault r => exact nomatch r
  | refused r => exact absurd h (by simp [ctxOf])

theorem refused_of_refusalOf (o : Host.Outcome State Fault Refusal) (r : Refusal)
    (h : refusalOf o = some r) : o = .refused r := by
  cases o with
  | next t => exact absurd h (by simp [refusalOf])
  | fault f => exact nomatch f
  | refused q => exact congrArg _ (Option.some.inj h)

/-- A state between two steps of a cycle, or at a point inside one. -/
def at' (ph : Phase) (m : Word) (c : Context F32) (xs : List Input) : State :=
  { st c with cyc := some ⟨ph, { Locals.fresh with m := m }⟩, inputs := xs }

/-- IllegalWordsSetStatusOnly, CommandWordsDecode: one word of each kind. -/
theorem test_witness_illegal_word :
    ∀ w ∈ [0x09000000#32, 0x10010000#32, 0x24020000#32, 0x40000001#32], ∃ e, decode w = .error e := by
  intro w h
  simp only [List.mem_cons, List.not_mem_nil, or_false] at h
  rcases h with rfl | rfl | rfl | rfl
  · exact ⟨.unknownOpc, by decide⟩
  · exact ⟨.variantNotAdmitted, by decide⟩
  · exact ⟨.variantNotAdmitted, by decide⟩
  · exact ⟨.reservedBits, by decide⟩

/-- StepRunsDecodedCommand, first clause. -/
theorem test_witness_step_runs_next :
    decode 0x17000000 = .ok .wrap ∧ (st c0).cyc = none ∧ ∃ t, exec .wrap (st c0) = .next t :=
  ⟨by decide, rfl, next_of_ctxOf _ (by decide +kernel)⟩

/-- StepRunsDecodedCommand, second clause; SmoothingIsRefused for CC_STEP. -/
theorem test_witness_step_runs_refused :
    decode 0x20000000 = .ok .ccStep ∧
    exec .ccStep (st { c0 with tun.CC_LPF := 0x3DCCCCCD }) = .refused .smoothing :=
  ⟨by decide, refused_of_refusalOf _ _ (by decide +kernel)⟩

/-- IdleCoreDoesNothing. -/
theorem test_witness_idle : State.reset.inputs = [] ∧ State.reset.cyc = none := ⟨rfl, rfl⟩

/-- HostReadHasNoSideEffect and ReadOnlyWritesChangeNothing: an index with a register, read-only, and one
with none. -/
theorem test_witness_host_access :
    hostAdmitted (st c0) = true ∧ Reg.Rs.index = (0x020 : RegIndex).toNat ∧
    (∀ r : Reg, r.index = (0x020 : RegIndex).toNat → r.hostClass = .RO) ∧
    (∀ r : Reg, r.index ≠ (0x1F0 : RegIndex).toNat) ∧
    (∀ r : Reg, r.index = (0x1F0 : RegIndex).toNat → r.hostClass = .RO) := by
  have none : ∀ r : Reg, r.index ≠ (0x1F0 : RegIndex).toNat :=
    (Reg.ofIndex_eq_none _).1 (by decide)
  refine ⟨rfl, rfl, fun r h => ?_, none, fun r h => absurd h (none r)⟩
  rw [Reg.index_inj r .Rs h]
  decide

/-- HostWriteStoresByClass: what the clauses give at the word of all ones. -/
theorem test_witness_host_write : ∀ p ∈ [(Reg.MODE, 0xFFFFFFFD#32), (Reg.STATUS, 0#32),
      (Reg.ADC_RAW0, 0xFFF#32), (Reg.ADC_RAW1, 0xFFF#32), (Reg.ADC_RAW2, 0xFFF#32),
      (Reg.ADC_RAW3, 0xFFF#32), (Reg.HALL_IN, 7#32), (Reg.Hall_test_sel, 7#32),
      (Reg.Rs, 0#32), (Reg.A0, 0xFFFFFFFF#32)],
    regsOf (one c0 (.hostWrite p.1.at 0xFFFFFFFF)) [p.1] = some [p.2] ∧ p.1 ≠ .CMD := by
  decide +kernel

/-- CommandAndTickRefusedDuringCycle and HostWaitsInsideStep: a boundary and a point inside a step. -/
theorem test_witness_during_cycle :
    (at' .S4 0 c0 []).cyc = some ⟨.S4, Locals.fresh⟩ ∧ hostAdmitted (at' .S4 0 c0 []) = true ∧
    hostAdmitted (at' .S7run 0 c0 [.hostRead 0x020]) = false ∧
    hostAdmitted (at' .S3b 0 c0 [.hostWrite 0x008 1]) = false ∧ (0x008 : RegIndex) ≠ cmdIndex := by
  decide

/-- BusAccessIsTheWordAccess: the first and the last index, CMD's write inside a cycle, an access inside a
step, and the misshapes of both directions. -/
theorem test_witness_bus :
    BitVec.ofNat 11 (4 * (0x1FF : RegIndex).toNat) = 0x7FC#11 ∧
    BitVec.ofNat 11 (4 * cmdIndex.toNat) = 0#11 ∧
    hostAdmitted (st c0) = true ∧ (0x1FF : RegIndex) ≠ cmdIndex ∧
    hostAdmitted (at' .S7run 0 c0 [.busWrite 0x020 [0, 0, 0, 0]]) = false ∧
    refusalOf (step (at' .S7run 0 c0 [.busWrite 0 [0, 0, 0, 0x16]])) = some .commandDuringCycle ∧
    refusalOf (one c0 (.busRead 0x001 4)) = some .accessShape ∧
    refusalOf (one c0 (.busRead 0x020 2)) = some .accessShape ∧
    refusalOf (one c0 (.busWrite 0x003 [0, 0, 0, 0])) = some .accessShape ∧
    refusalOf (one c0 (.busWrite 0x020 [0, 0])) = some .accessShape ∧
    regsOf (one c0 (.busRead 0x7FC 4)) [.A0] = some [0] ∧
    regsOf (one c0 (.busWrite 0 [0, 0, 0, 0x09])) [.CMD, .STATUS] = some [0x09000000, 1] := by
  decide +kernel

/-- ResetAbandonsWhatIsInProgress: inside a step of a cycle, a fault latched. -/
theorem test_witness_reset : regsOf (step (at' .S7latch 0x41
      { c0 with flt.Fault_code := 1, cal.CAL_CNT := 77 } [.reset])) [.Fault_code, .CAL_CNT, .T_ALIGN2] =
    some [0, 0, 0x40A00000] := by decide +kernel

/-- CcStepCompletesByItsStages, and the completing clauses of AlignStepByStage and CycleCompletes: the
reset value of CC_LPF, with and without the compensation. -/
theorem test_witness_smoothing_off : hw.eq c0.tun.CC_LPF (hw.ofDecimal 0 1) = true ∧
    flag c0.ctl.MODE .COMP = false ∧ flag (0x800#32) .COMP = true ∧
    flag c0.ctl.MODE .VREF_GEN = false ∧ flag c0.ctl.MODE .PARAM_EST = false := by decide +kernel

/-- SmoothingIsRefused and CC_STEP inside the alignment: stages 1 and 2 with CC_LPF = 0.1. -/
theorem test_witness_smoothing_on : ∀ k ∈ [1#2, 2#2],
    let c := { c0 with tun.CC_LPF := 0x3DCCCCCD, al.Align_stage := k }
    hw.eq c.tun.CC_LPF (hw.ofDecimal 0 1) = false ∧
      refusalOf (exec .alignStep (st c)) = some .smoothing := by decide +kernel

/-- AlignStepByStage: the four stages. -/
theorem test_witness_align_stages : ∀ k ∈ [0#2, 1#2, 2#2, 3#2],
    (ctxOf (exec .alignStep (st { c0 with al.Align_stage := k }))).isSome = true := by decide +kernel

/-- FooVariantsDifferInWrmEstOnly. -/
theorem test_witness_foo_variants :
    ∃ ta tb, exec .fooStepA (st cBoot) = .next ta ∧ exec .fooStepB (st cBoot) = .next tb := by
  rw [exec_fooStepA, exec_fooStepB]
  exact ⟨_, _, rfl, rfl⟩

/-- HwFaultEntersAsCommandAndEvent: the event in the middle of a cycle. -/
theorem test_witness_hwfault_event :
    regsOf (step (at' .S7run 0x11 c0 [.hwfault])) [.Fault_code, .MODE] = some [1, 2] := by
  decide +kernel

/-- HardwareCodeIsNeverOverwritten: a latched hardware code and a step that goes on. -/
theorem test_witness_hardware_code :
    let s := { at' .S4 0 { c0 with flt.Fault_code := 1, meas.Ia := 0x42B40000 } [] with draws := 0 }
    s.ctx.flt.Fault_code = 1 ∧ regsOf (step s) [.Fault_code, .Fault_cnt] = some [1, 1] := by
  decide +kernel

/-- EveryCycleSamplesAndObserves: the counts on both sides of 5000, the last count, and a converting
cycle, in each of which a cycle completes. -/
theorem test_witness_every_cycle :
    (∀ n ∈ [4999#32, 5000#32, 9999#32], ∃ t, exec .cycle (st { c0 with cal.CAL_CNT := n }) = .next t) ∧
    ∃ t, exec .cycle (st { c0 with cal.CAL_CNT := 10000, cal.CAL_DONE := true }) = .next t := by
  refine ⟨fun n h => ?_, next_of_ctxOf _ (by decide +kernel)⟩
  simp only [List.mem_cons, List.not_mem_nil, or_false] at h
  rcases h with rfl | rfl | rfl <;> exact next_of_ctxOf _ (by decide +kernel)

/-- EveryCycleSamplesAndObserves: a cycle that trips (program P3, cycle 10,002), one that trips with a
hardware code latched, and a sensorless one. -/
theorem test_witness_every_cycle_trip :
    let c := { c0 with
      ctl.MODE := 5, smp.ADC_RAW0 := 4095, smp.ADC_GAIN0 := 0x40800000
      cal := ⟨0x45000000, 0, 0, 0, 0, 0, 10000, true⟩ }
    regsOf (exec .cycle (st c)) [.Ia, .Fault_code, .Fault_cnt, .F_Ia, .PWM_EN, .MODE] =
      some [0x42C7F37F, 2, 1, 0x42C7F37F, 0, 2] ∧
    regsOf (exec .cycle (st { c with flt.Fault_code := 1 })) [.Fault_code, .Fault_cnt] =
      some [1, 1] ∧
    flag (0x1000#32) .SENSORLESS = true ∧
    (ctxOf (exec .cycle (st { c0 with ctl.MODE := 0x1000 }))).isSome = true := by decide +kernel

/-- LatchedOrNotReadyCycleIsIdle and OutputDisabledAfterCompleteCycle: a fault latched with READY set, and
READY clear. -/
theorem test_witness_latched :
    regsOf (exec .cycle (st { c0 with
      ctl.MODE := 5, flt.Fault_code := 2, out := ⟨0, 0, 0, true⟩ })) [.Fault_code, .PWM_EN, .MODE] =
      some [2, 0, 1] ∧
    flag (4#32) .READY = false := by decide +kernel

/-- A cycle that is not ready completes and leaves the drive not ready. -/
theorem idle_cycle (s : State) (h : flag s.ctx.ctl.MODE .READY = false) :
    ∃ t, exec .cycle s = .next t ∧ flag t.ctx.ctl.MODE .READY = false := by
  have hm : flag (beforeS7 hw s.ctx).ctl.MODE .READY = false := by
    rcases beforeS7_mode hw s.ctx with ⟨h1, -⟩ | ⟨h1, -⟩
    · rw [h1, h]
    · rw [h1, flag_faultEntry_ready]
  rw [exec_cycle, cycle_eq]
  dsimp only
  rw [behaviour_idle _ _ (.inl hm)]
  refine ⟨_, rfl, ?_⟩
  generalize beforeS7 hw s.ctx = b at hm ⊢
  generalize hw = P at *
  have : (selected P b).ctl = b.ctl := by
    unfold selected
    rw [behaviour_idle _ _ (.inl hm)]
    unfold selectSource
    dsimp only
    split <;> simp [sensorless] <;> split <;> simp
  simp [settled, behaviour_idle _ _ (.inl hm), behaveIdle, this]
  simpa [flag, clearRunModes, ModeFlag.bit] using hm

/-- CalibrationCompletesAtTenThousand: cycle after cycle from reset, none of them ready. -/
theorem test_witness_calibration : ∃ before after : Nat → State,
    (before 1).ctx.cal.CAL_CNT = 0 ∧ (before 1).ctx.cal.CAL_DONE = false ∧
    (∀ n, 1 ≤ n → exec .cycle (before n) = .next (after n)) ∧
    ∀ n, 1 ≤ n → (before (n + 1)).ctx.cal = (after n).ctx.cal := by
  choose f hf using fun s : { s : State // flag s.ctx.ctl.MODE .READY = false } => idle_cycle s.1 s.2
  let run : Nat → { s : State // flag s.ctx.ctl.MODE .READY = false } :=
    Nat.rec ⟨State.reset, by decide⟩ (fun _ s => ⟨f s, (hf s).2⟩)
  exact ⟨fun n => (run (n - 1)).1, fun n => f (run (n - 1)), rfl, rfl, fun n _ => (hf _).1,
    fun n hn => by obtain ⟨k, rfl⟩ := Nat.exists_eq_add_of_le' hn; rfl⟩

/-- BehaviourIsFirstFlagInOrder: the lowest and the highest flag, none, not ready, faulted. -/
theorem test_witness_behaviour :
    behaviour 0x3FD 0 = .RUN ∧ behaviour 0x201 0 = .ALIGN ∧ behaviour 0x001 0 = .IDLE ∧
    behaviour 0x3FC 0 = .IDLE ∧ behaviour 0x3FD 1 = .IDLE := by decide

/-- SelectedSourceByBehaviour and the behaviour statements: a mode word for every behaviour. -/
theorem test_witness_behaviours : ∀ p ∈ [(0x005#32, Behaviour.RUN), (0x4005#32, .RUN),
      (0x009#32, .HALL_TEST), (0x011#32, .DUTY_TEST), (0x021#32, .OL_CURRENT), (0x041#32, .VREF_GEN),
      (0x081#32, .OL_VOLTAGE), (0x101#32, .PARAM_EST), (0x201#32, .ALIGN), (0x3001#32, .IDLE)],
    let s := at' .S7run p.1 c0 []
    s.inputs = [] ∧ s.cyc = some ⟨.S7run, { Locals.fresh with m := p.1 }⟩ ∧
      behaviour { Locals.fresh with m := p.1 }.m { Locals.fresh with m := p.1 }.f = p.2 := by decide

/-- TestBehavioursSetDuties: a selector at each end of 1 to 6, and 0 and 7. -/
theorem test_witness_selectors :
    (1#3 ≠ 0 ∧ 1#3 ≠ 7) ∧ (6#3 ≠ 0 ∧ 6#3 ≠ 7) ∧ hallVectorSelected 0 = false ∧
    hallVectorSelected 7 = false := by decide

/-- UndescribedModesAreRefused: the refusals themselves. -/
theorem test_witness_undescribed :
    refusalOf (step (at' .S7run 0x041 c0 [])) = some .vrefGen ∧
    refusalOf (step (at' .S7run 0x101 c0 [])) = some .paramEst := by decide +kernel

/-- HwFaultAtPointsPOneAndPTwo, program P6: the points P1 and P2 of a duty test. -/
theorem test_witness_hwfault_points :
    let l := { Locals.fresh with m := 0x11, enReq := true }
    let c := { (p1 []).ctx with out := ⟨0x3E800000, 0x3F000000, 0x3F800000, false⟩ }
    regsOf (core.run 3 { st c with cyc := some ⟨.S7latch, l⟩, inputs := [.hwfault, .cyc, .cyc] })
      [.Fault_code, .Duty_a, .PWM_EN] = some [1, 0, 0] ∧
    regsOf (core.run 2 { st c with cyc := some ⟨.S7fin, l⟩, inputs := [.hwfault, .cyc] })
      [.Fault_code, .Duty_a, .PWM_EN] = some [1, 0, 1] := by decide +kernel

/-- Whether the cycle in progress of a next state ends in an enable request. -/
def enReqOf : Host.Outcome State Fault Refusal → Option Bool
  | .next t => t.cyc.map (fun p => p.loc.enReq)
  | .fault _ => none
  | .refused _ => none

theorem next_of_enReqOf (o : Host.Outcome State Fault Refusal) (h : enReqOf o = some true) :
    ∃ u p, o = .next u ∧ u.cyc = some p ∧ p.loc.enReq = true := by
  cases o with
  | next u =>
    obtain ⟨p, hp, he⟩ := Option.map_eq_some_iff.1 h
    exact ⟨u, p, rfl, hp, he⟩
  | fault r => exact nomatch r
  | refused r => exact absurd h (by simp [enReqOf])

/-- HwFaultAtPointsPOneAndPTwo, program P6: the points Q1 and Q2 of a duty test, the run without the fault
first. -/
theorem test_witness_hwfault_q :
    (∃ u p, core.run 2 (at' .S7sel 0x11 (p1 []).ctx []) = .next u ∧ u.cyc = some p ∧
      p.loc.enReq = true) ∧
    (∃ u p, step (at' .S7run 0x11 (p1 []).ctx []) = .next u ∧ u.cyc = some p ∧
      p.loc.enReq = true) ∧
    regsOf (core.run 5 (at' .S7sel 0x11 (p1 []).ctx [.hwfault, .cyc, .cyc, .cyc, .cyc]))
      [.Fault_code, .Duty_a, .Duty_b, .Duty_c, .PWM_EN, .MODE] =
      some [1, 0x3E800000, 0x3F000000, 0x3F800000, 0, 0x12] ∧
    regsOf (core.run 4 (at' .S7run 0x11 (p1 []).ctx [.hwfault, .cyc, .cyc, .cyc]))
      [.Fault_code, .Duty_a, .Duty_b, .Duty_c, .PWM_EN, .MODE] =
      some [1, 0x3E800000, 0x3F000000, 0x3F800000, 0, 0x12] :=
  ⟨next_of_enReqOf _ (by decide +kernel), next_of_enReqOf _ (by decide +kernel), by decide +kernel,
    by decide +kernel⟩

/-- HwFaultAtPointsPOneAndPTwo, the enable request alone: clear, latched, and not asked for. -/
theorem test_witness_enable :
    let l := { Locals.fresh with m := 0x11, enReq := true }
    regsOf (core.run 2 { st c0 with cyc := some ⟨.S7latch, l⟩ }) [.PWM_EN] = some [1] ∧
    regsOf (core.run 2 { st { c0 with flt.Fault_code := 2 } with cyc := some ⟨.S7latch, l⟩ })
      [.PWM_EN] = some [0] ∧
    regsOf (core.run 2 (at' .S7latch 0x11 c0 [])) [.PWM_EN] = some [0] := by decide +kernel

/-- OpenLoopBehaviours, ALIGN: the four stages, as a part of a cycle and as the command; refused in stage 1
with CC_LPF = 0.1. -/
theorem test_witness_align_in_cycle :
    (∀ k ∈ [0#2, 1#2, 2#2, 3#2],
      let s := at' .S7run 0x201 { c0 with al.Align_stage := k } []
      behaviour 0x201 0 = .ALIGN ∧ flag 0x201 .COMP = flag s.ctx.ctl.MODE .COMP ∧
        (ctxOf (step s)).isSome = true ∧ (ctxOf (exec .alignStep s)).isSome = true) ∧
    refusalOf (exec .alignStep (at' .S7run 0x201
      { c0 with al.Align_stage := 1, tun.CC_LPF := 0x3DCCCCCD } [])) = some .smoothing := by
  decide +kernel

/-- OtherBehavioursAbortAlignment. -/
theorem test_witness_abort :
    let s := at' .S7fin 0x005 { c0 with al := ⟨2, 0x40A00000, true⟩ } []
    behaviour 0x005 0 ≠ .ALIGN ∧ behaviour 0x201 0 = .ALIGN ∧
    regsOf (step s) [.Align_stage, .Align_time, .Align_done] = some [0, 0x40A00000, 1] ∧
    (ctxOf (step (at' .S7fin 0x201 c0 []))).isSome = true := by decide +kernel

/-- StepKeepsSoundState: a sound state with a fault latched, and its step. -/
theorem test_witness_sound :
    let s := { st { c0 with ctl.MODE := 2, flt.Fault_code := 1 } with inputs := [.tick] }
    Sound s ∧ ∃ t, step s = .next t := by
  refine ⟨?_, next_of_ctxOf _ (by decide +kernel)⟩
  unfold Sound RegsSound FaultMirrored FaultCodeLegal CalibrationCounted AlignStageLegal
  decide

/-- TickPerformsCycle: a cycle that completes and one that is refused. -/
theorem test_witness_tick :
    (∃ t, exec .cycle (st c0) = .next t) ∧
    exec .cycle (st { c0 with ctl.MODE := 0x41 }) = .refused .vrefGen :=
  ⟨next_of_ctxOf _ (by decide +kernel), refused_of_refusalOf _ _ (by decide +kernel)⟩

/-- ExecWritesOnlyItsRegisters: an operation that completes and a register it may not write. -/
theorem test_witness_frame : (∃ t, exec .cycle (st c0) = .next t) ∧ Reg.A0 ∉ writesOf .cycle :=
  ⟨next_of_ctxOf _ (by decide +kernel), by decide⟩

/-- BinaryThirtyTwoRoundsToNearest: a sum and a product at the largest finite number, a quotient that is
not exact. -/
theorem test_witness_rounding :
    Binary32.isFinite (hw.add 0x7F7FFFFF 0x3F800000) = true ∧
    Binary32.isFinite (hw.mul 0x7F7FFFFF 0x3F800000) = true ∧
    Binary32.scaled 0x40400000 ≠ 0 ∧ hw.div 0x3F800000 0x40400000 = 0x3EAAAAAB#32 ∧
    Binary32.isFinite 0x3EAAAAAB = true := by decide +kernel

/-- WrapResultAndRealRange and TransformInversesInTheReals: the angle 0 and its sine and cosine. -/
theorem test_witness_reals :
    -Real.pi < (0 : ℝ) - 2 * Real.pi * (0 : ℤ) ∧ (0 : ℝ) - 2 * Real.pi * (0 : ℤ) ≤ Real.pi ∧
    (0 : ℝ) ^ 2 + 1 ^ 2 = 1 := by
  simp [Real.pi_pos, Real.pi_pos.le]

/-- The open parameters of the count: Ts = 0.0001. -/
noncomputable def countOpen : Reference.Open :=
  { Ts := 1 / 10000, resComp := fun _ _ _ _ => 0, hallTestVec := fun _ => (0, 0, 0)
    freeClamp := fun _ _ => 0 }

/-- Call after call of ALIGN_STEP over the reals, from the reset values and Vdc = 1. -/
noncomputable def countRun : Nat → Context ℝ
  | 0 => { Context.reset (0 : ℝ) 1 3000 4 5 with meas.Vdc := 1 }
  | n + 1 =>
    match alignStep (Reference.params countOpen) (fun _ => 0) (flag (countRun n).ctl.MODE .COMP)
      (countRun n) with
    | .ok c => c
    | .error _ => countRun n

/-- AlignmentTakesFiftyThousandCalls. -/
theorem test_witness_alignment_count :
    countOpen.Ts = 1 / 10000 ∧ (countRun 0).al.Align_stage = 0 ∧ (countRun 0).tun.T_ALIGN1 = 4 ∧
    (countRun 0).tun.T_ALIGN2 = 5 ∧ (countRun 0).tun.CC_LPF = 0 ∧ (countRun 0).meas.Vdc ≠ 0 ∧
    ∀ n c, alignStep (Reference.params countOpen) (fun _ => 0) (flag (countRun n).ctl.MODE .COMP)
      (countRun n) = .ok c → countRun (n + 1) = c := by
  refine ⟨rfl, rfl, rfl, rfl, rfl, one_ne_zero, fun n c h => ?_⟩
  rw [countRun, h]

end Sys2Proof.Tests
end

/-! ## Reset -/

namespace Sys2Proof.Proofs

open Sys2Proof.Machine

/-- Settles O12, register by register: a register outside the seven holds the zero of its group (R46), and
the flags and codes narrower than a word, which read zero-extended (R21), read 0 too. -/
theorem resetValuesOfEveryRegister : Obligations.ResetValuesOfEveryRegister := by
  intro r
  cases r with
  | ADC_GAIN0 | ADC_GAIN1 | ADC_GAIN2 | ADC_GAIN3 => rfl
  | ACC_MAX => rfl
  | T_ALIGN1 | T_ALIGN2 => rfl
  | _ => rfl

end Sys2Proof.Proofs

/-! ## Parameter and gain model -/

namespace Sys2Proof.Proofs

open Sys2Proof.Machine

/-! ### What INIT_CC and RESET_CTRL zero, and what RESET_CTRL leaves -/

/-- R103: the current state and the duties, read one after the other. -/
theorem initCc_read_zeroed (P : Params F32) (c : Context F32) :
    ∀ r ∈ Reg.ccRegs ++ Reg.mdRegs ++ [.Duty_a, .Duty_b, .Duty_c], (initCc P c).read r = zero P :=
  List.map_eq_replicate_iff.1 rfl

/-- R109: the controllers, the open-loop angle and the test duties, read one after the other. -/
theorem resetControllers_read_zeroed (P : Params F32) (c : Context F32) :
    ∀ r ∈ writesOf .resetCtrl, (resetControllers P c).read r = zero P :=
  List.map_eq_replicate_iff.1 rfl

/-- R109: "It does not touch" any register but those it zeroes. -/
theorem resetControllers_read_frame (P : Params F32) (c : Context F32) (r : Reg)
    (h : r ∉ writesOf .resetCtrl) : (resetControllers P c).read r = c.read r := by
  cases r with
  | Idsr_ref | Idsr | Idsr_err | Vdsr_integ | Vdsr_ref_unsat | Vdsr_ref | Vdsr_aw | Iqsr_ref
  | Iqsr | Iqsr_err | Vqsr_integ | Vqsr_ref_unsat | Vqsr_ref | Vqsr_aw =>
    exact absurd (by decide) h
  | Idss | Iqss | Vdss_ref | Vqss_ref | Vas_ref | Vbs_ref | Vcs_ref | Vsn | Van_ref | Vbn_ref
  | Vcn_ref | Iqsr_ref_unsat => exact absurd (by decide) h
  | Wrm_ref | Wrm | Wrm_err | Te_integ | Te_ref_unsat | Te_ref | Te_aw =>
    exact absurd (by decide) h
  | Theta_ol | Duty_test_a | Duty_test_b | Duty_test_c => exact absurd (by decide) h
  | _ => rfl

/-- The index ranges in which R109 names its registers hold the registers of the "written by" columns. -/
theorem mem_writesOf_resetCtrl (r : Reg) :
    r ∈ writesOf .resetCtrl ↔
      (0x080 ≤ r.index ∧ r.index ≤ 0x08E) ∨ (0x090 ≤ r.index ∧ r.index ≤ 0x09A) ∨
        r.index = 0x09D ∨ (0x0A0 ≤ r.index ∧ r.index ≤ 0x0A6) ∨
        r = .Theta_ol ∨ r = .Duty_test_a ∨ r = .Duty_test_b ∨ r = .Duty_test_c := by
  cases r <;> decide

/-! ### The obligations -/

/-- Settles O14: NOP's meaning is the state it is given (R101). -/
theorem nopChangesNothing : Obligations.NopChangesNothing := exec_nop

/-- Settles O15: the twelve operands are stored in order, and Kt is made of the operands PP and Lamf come
from (R102). -/
theorem initParamsStoresAndDerives : Obligations.InitParamsStoresAndDerives :=
  exec_initParams

/-- Settles O16: the groups INIT_CC writes, field by field, and the zeros it leaves to be read (R103). -/
theorem initCcDerivesAndZeroes : Obligations.InitCcDerivesAndZeroes := by
  intro s
  refine ⟨_, exec_initCc s, rfl, rfl, rfl, rfl, fun r hr => ?_, rfl⟩
  exact (initCc_read_zeroed hw s.ctx r hr).trans zero_hw

/-- Settles O17: both gains are of the new bandwidth A0 (R104). -/
theorem initScStoresGains : Obligations.InitScStoresGains := exec_initSc

/-- Settles O18: the primary pair is of A0, the secondary pair of the fixed `W_h` (R105). -/
theorem initPllStoresBothPairs : Obligations.InitPllStoresBothPairs := exec_initPll

/-- Settles O19: the one pair is of Ld, Rs and the new bandwidth A0 (R106). -/
theorem initEemfStoresOnePair : Obligations.InitEemfStoresOnePair := exec_initEemf

/-- Settles O20: `Wso`, `l1`, `l2` and `l3` are values on the way to the three gains (R107). -/
theorem initFooStoresButterworthGains : Obligations.InitFooStoresButterworthGains :=
  exec_initFoo

/-- Settles O22: a register in R109's ranges is zeroed, and one outside them is left as it was. -/
theorem resetCtrlZeroesControllers : Obligations.ResetCtrlZeroesControllers := by
  intro s
  refine ⟨_, exec_resetCtrl s, rfl, fun r => ?_⟩
  dsimp only
  split
  · next h =>
    exact (resetControllers_read_zeroed hw s.ctx r ((mem_writesOf_resetCtrl r).2 h)).trans zero_hw
  · next h =>
    exact resetControllers_read_frame hw s.ctx r (fun hr => h ((mem_writesOf_resetCtrl r).1 hr))

end Sys2Proof.Proofs

/-! ## Transforms and modulation -/

namespace Sys2Proof.Proofs

open Sys2Proof.Machine

/-! ### What WRAP is in the reals -/

/-- R134's `x − 2πk` in the reals: the integer `k` is the ceiling the rule writes. -/
theorem wrap_params (o : Reference.Open) (x : ℝ) :
    wrap (Reference.params o) x = x - 2 * Real.pi * ⌈(x - Real.pi) / (2 * Real.pi)⌉ := by
  simp [wrap, mul_comm]

/-- R134's `k` is the number of turns by which `x` lies beyond (−π, π]. -/
theorem toIocDiv_two_pi_eq_ceil (x : ℝ) :
    toIocDiv Real.two_pi_pos (-Real.pi) x = ⌈(x - Real.pi) / (2 * Real.pi)⌉ := by
  have beyond : -((-Real.pi + 2 * Real.pi - x) / (2 * Real.pi)) = (x - Real.pi) / (2 * Real.pi) := by
    ring
  rw [toIocDiv_eq_neg_floor, ← Int.ceil_neg, beyond]

/-- R134 in the reals: WRAP is the library's reduction of an angle into (−π, −π + 2π]. -/
theorem wrap_params_eq_toIocMod (o : Reference.Open) (x : ℝ) :
    wrap (Reference.params o) x = toIocMod Real.two_pi_pos (-Real.pi) x := by
  rw [wrap_params, ← toIocDiv_two_pi_eq_ceil, ← self_sub_toIocDiv_zsmul, zsmul_eq_mul, mul_comm]

/-- One turn above −π is π: the library's range is that of R134. -/
theorem neg_pi_add_two_pi : -Real.pi + 2 * Real.pi = Real.pi := by ring

theorem wrap_params_mem_Ioc (o : Reference.Open) (x : ℝ) :
    wrap (Reference.params o) x ∈ Set.Ioc (-Real.pi) Real.pi := by
  have reduced := toIocMod_mem_Ioc Real.two_pi_pos (-Real.pi) x
  rwa [← wrap_params_eq_toIocMod o, neg_pi_add_two_pi] at reduced

/-- R134's uniqueness: a number in (−π, π] reduces to itself, and turns taken off change no reduction. -/
theorem eq_wrap_params_of_mem_Ioc (o : Reference.Open) (x : ℝ) (k : ℤ)
    (h : x - 2 * Real.pi * k ∈ Set.Ioc (-Real.pi) Real.pi) :
    x - 2 * Real.pi * k = wrap (Reference.params o) x := by
  have turns : 2 * Real.pi * k = k • (2 * Real.pi) := by rw [zsmul_eq_mul, mul_comm]
  calc x - 2 * Real.pi * k
      = toIocMod Real.two_pi_pos (-Real.pi) (x - 2 * Real.pi * k) :=
        ((toIocMod_eq_self Real.two_pi_pos).2 (neg_pi_add_two_pi.symm ▸ h)).symm
    _ = toIocMod Real.two_pi_pos (-Real.pi) x := by rw [turns, toIocMod_sub_zsmul]
    _ = wrap (Reference.params o) x := (wrap_params_eq_toIocMod o x).symm

/-! ### The obligations -/

/-- Settles O26: WRAP's meaning is R134's expression, and in the reals that expression reduces the angle
by whole turns into (−π, π], where one such number lies. -/
theorem wrapResultAndRealRange : Obligations.WrapResultAndRealRange := by
  refine ⟨exec_wrap, fun o x => ?_⟩
  obtain ⟨lower, upper⟩ := wrap_params_mem_Ioc o x
  exact ⟨lower, upper, ⟨_, wrap_params o x⟩,
    fun k hlo hhi => eq_wrap_params_of_mem_Ioc o x k ⟨hlo, hhi⟩⟩

/-- Settles O23: R121 to R124, the results into R0 upward. -/
theorem transformCommandResults : Obligations.TransformCommandResults :=
  fun s => ⟨exec_clarke s, exec_park s, exec_ipark s, exec_iclarke s⟩

/-- Settles O24: the offset of R125 and its three sums, and R126's term with no gate on it. -/
theorem offsetAndCompensationResults : Obligations.OffsetAndCompensationResults :=
  fun s => ⟨exec_svmOffset s, exec_dtComp s⟩

/-- Settles O25: R0 is R127's clamp, of which R11 says all that is said (X3). -/
theorem dutyResult : Obligations.DutyResult :=
  fun s => ⟨_, exec_duty s, clamp_clampsTo hw _ _ _ _⟩

end Sys2Proof.Proofs

/-! ## Current controller -/

namespace Sys2Proof.Proofs

open Sys2Proof.Machine

variable {N : Type}

/-- R140 with CC_LPF = 0: CC_STEP is its nine stages, of which the ninth ends in the enable request. -/
theorem ccStep_ok (P : Params N) (fr : ClampSite → N) (comp : Bool) (i q th w : N) (c : Context N)
    (h : P.eq c.tun.CC_LPF (P.ofDecimal 0 1) = true) :
    ccStep P fr comp i q th w c =
      .ok (enableRequest (ccModulate P fr comp th w
        (ccClamp P fr (ccUnsat P w (ccMeasure P i q th c))))) := by
  rw [ccStep, ccDrive_ok P fr comp i q th w c h]
  rfl

/-- R148 with MODE.COMP clear: the offset alone is added. -/
theorem ccOffset_of_not_comp (P : Params N) (comp : Bool) (th w : N) (c : Context N)
    (h : comp = false) :
    (ccOffset P comp th w c).md.Van_ref = P.add c.md.Vas_ref (ccOffset P comp th w c).md.Vsn ∧
    (ccOffset P comp th w c).md.Vbn_ref = P.add c.md.Vbs_ref (ccOffset P comp th w c).md.Vsn ∧
    (ccOffset P comp th w c).md.Vcn_ref = P.add c.md.Vcs_ref (ccOffset P comp th w c).md.Vsn := by
  subst h
  exact ⟨rfl, rfl, rfl⟩

/-- R148 with MODE.COMP set: after the offset comes the term of the phase's own current reference. -/
theorem ccOffset_of_comp (P : Params N) (comp : Bool) (th w : N) (c : Context N) (h : comp = true) :
    (ccOffset P comp th w c).md.Van_ref =
      P.add (P.add c.md.Vas_ref (ccOffset P comp th w c).md.Vsn)
        (dtComp P c.tun.DT_A c.tun.DT_B (phaseCurrentRefs P th w c).1) ∧
    (ccOffset P comp th w c).md.Vbn_ref =
      P.add (P.add c.md.Vbs_ref (ccOffset P comp th w c).md.Vsn)
        (dtComp P c.tun.DT_A c.tun.DT_B (phaseCurrentRefs P th w c).2.1) ∧
    (ccOffset P comp th w c).md.Vcn_ref =
      P.add (P.add c.md.Vcs_ref (ccOffset P comp th w c).md.Vsn)
        (dtComp P c.tun.DT_A c.tun.DT_B (phaseCurrentRefs P th w c).2.2) := by
  subst h
  exact ⟨rfl, rfl, rfl⟩

/-- Settles O28: with CC_LPF = 0 the step is its stages (R145). Each register holds what its own stage
wrote, for no later stage writes it again; the two values of MODE.COMP are the two cases of R148, and of the
five clamps R11 says all that is said. -/
theorem ccStepCompletesByItsStages : Obligations.CcStepCompletesByItsStages := by
  intro s lpf
  dsimp only
  rw [exec_ccStep, ccStep_ok hw _ _ _ _ _ _ _ lpf, outcomeOf_ok, enableRequest_eq]
  refine ⟨_, rfl, rfl, ?frame, rfl, ?stages⟩
  case frame => ext1 <;> simp
  case stages =>
    generalize hw.freeClamp s.draws = fr
    generalize hw = P
    -- R141: the references and the measured currents
    refine ⟨rfl, rfl, rfl, rfl, ?_⟩
    -- R142 to R145: each axis' error, integrator and unsaturated output
    refine ⟨rfl, rfl, rfl, rfl, rfl, rfl, ?_⟩
    -- R146: each axis' clamp and the anti-windup term it leaves
    refine ⟨clamp_clampsTo P _ _ _ _, rfl, clamp_clampsTo P _ _ _ _, rfl, ?_⟩
    -- R147 and R148: the inverse transforms, the offset, and the compensation by MODE.COMP
    refine ⟨rfl, rfl, rfl, ccOffset_of_not_comp P _ _ _ _, ccOffset_of_comp P _ _ _ _, ?_⟩
    -- R149: the duties and the enable
    exact ⟨clamp_clampsTo P _ _ _ _, clamp_clampsTo P _ _ _ _, clamp_clampsTo P _ _ _ _, rfl⟩

end Sys2Proof.Proofs

/-! ## Speed controller -/

namespace Sys2Proof.Proofs

open Sys2Proof.Machine

/-! ### What a behaviour comes to as the part S7run -/

/-- R270: in the part that performs the behaviour, with no input pending, a behaviour that completes gives
its register file, and whether an enable request follows goes into the snapshot. -/
theorem step_S7run (s : State) (l : Locals) (t : Context F32) (en : Bool)
    (cyc : s.cyc = some ⟨.S7run, l⟩) (quiet : s.inputs = [])
    (done : behave hw (hw.freeClamp s.draws) (behaviour l.m l.f) l.m s.ctx = .ok (t, en)) :
    step s = .next { s with
      ctx := t, cyc := some ⟨.S7latch, { l with enReq := en, st := s.ctx.al.Align_stage }⟩ } := by
  rw [step_nil s quiet]
  refine cycStep_part s .S7run .S7latch l _ t cyc rfl ?_
  rw [phaseStep, done]
  rfl

/-! ### The obligations -/

/-- Settles O30: each register holds what its own stage computed (R161 to R164). The ramp adds one clamp to
the reference and the torque is another, and of both R11 says all that is said. -/
theorem scStepCompletesByItsStages : Obligations.ScStepCompletesByItsStages := by
  intro s
  dsimp only
  -- R161 and R162: the dead-zone and the ramp
  refine ⟨_, _, exec_scStep s, rfl, clamp_clampsTo hw (hw.freeClamp s.draws .ramp) _ _ _, ?later⟩
  case later =>
    generalize hw.freeClamp s.draws = fr
    generalize hw = P
    -- R162 and R163: the new reference, the speed and its error, the integrator, the unsaturated output
    refine ⟨rfl, rfl, rfl, rfl, rfl, ?_⟩
    -- R164: the clamp and the anti-windup term it leaves
    exact ⟨clamp_clampsTo P _ _ _ _, rfl⟩

/-- Settles O31: TORQUE_CTRL's meaning is Te_ref through the dead-zone of R165, and the rest of the file as
it was. -/
theorem torqueCtrlWritesTeRefOnly : Obligations.TorqueCtrlWritesTeRefOnly := exec_torqueCtrl

/-- Settles O49: whichever controller the snapshot selects, and R166's division after it, leave CC_LPF as it
was, so the current controller completes; the `iq_ref` it is given is a clamp, of which R11 says all that is
said. -/
theorem runBehaviourChainsControllers : Obligations.RunBehaviourChainsControllers := by
  intro s l cyc quiet run lpf fr c1 c2
  have tun : c2.tun = s.ctx.tun := by
    dsimp only [c2, c1]
    split
    · simp
    · simp
  have drive := ccDrive_ok hw fr (flag l.m .COMP) (hw.ofDecimal 0 1) (iqLimited hw fr c2)
    c2.sl.Thetar_sel c2.sl.Wr_sel c2 (tun ▸ lpf)
  refine ⟨_, _, clamp_clampsTo hw (fr .iq) _ _ _, drive, step_S7run s l _ true cyc quiet ?_⟩
  have chain : behaveRun hw fr l.m s.ctx = .ok _ := drive
  rw [run, behave, chain]
  rfl

end Sys2Proof.Proofs

/-! ## Hall PLL -/

namespace Sys2Proof.Proofs

open Sys2Proof.Machine

/-! ### The Hall code -/

/-- R181: the three Hall states, weighed 4, 2 and 1, are the sampled code itself. -/
theorem hallCode_eq (h : BitVec 3) : hallCode h = h := by
  revert h
  decide

/-- A code is one of the six of R182's table, in the table's order, or one of the two of R183. -/
theorem hall_code_mapped_or_held (code : BitVec 3) :
    (code = 6 ∨ code = 4 ∨ code = 5 ∨ code = 1 ∨ code = 3 ∨ code = 2) ∨ code = 0 ∨ code = 7 := by
  revert code
  decide

/-! ### The obligations -/

/-- Settles O32: each register holds what its own stage computed (R181 to R186). The reference is checked
code by code: the six of the table, and the two that hold. -/
theorem hallStepCompletesByItsStages : Obligations.HallStepCompletesByItsStages := by
  intro s
  dsimp only
  have code := hallCode_eq s.ctx.smp.HALL_IN
  refine ⟨_, exec_hallStep s, rfl, code, ?mapping, ?stages⟩
  case mapping =>
    refine (congrArg (hallRef hw _) code).trans ?_
    generalize s.ctx.smp.HALL_IN = h
    generalize hw = P
    obtain (rfl | rfl | rfl | rfl | rfl | rfl) | (rfl | rfl) := hall_code_mapped_or_held h
    -- R182: the six codes of the table
    iterate 6 · rfl
    -- R183: codes 0 and 7 hold the reference
    iterate 2 · rfl
  case stages =>
    -- R184 to R186: the error, the integrator, the speed (both with R187's `secondary` pair), the angle
    exact ⟨rfl, rfl, rfl, rfl⟩

end Sys2Proof.Proofs

/-! ## Full-order observer -/

namespace Sys2Proof.Proofs

open Sys2Proof.Machine

/-! ### What tells the variants apart -/

/-- R200: the angle moves at the same rate in both variants (R197, R198), so all that variant B does otherwise
is to add `K1 · err` to the speed put out. -/
theorem fooStep_B_eq {N : Type} (P : Params N) (err : N) (c : Context N) :
    fooStep P .B err c = { fooStep P .A err c with
      foo.Wrm_est := P.add (fooStep P .A err c).foo.Wrm_est (P.mul c.gain.K1 err) } := rfl

/-- A store to Wrm_est is read at no other register. -/
theorem read_set_Wrm_est (c : Context F32) (x : F32) (r : Reg) (h : r ≠ .Wrm_est) :
    { c with foo.Wrm_est := x }.read r = c.read r := by
  cases r with
  | Wrm_est => exact absurd rfl h
  | _ => rfl

/-! ### The obligations -/

/-- Settles O34: the state variant B answers is that of variant A with another Wrm_est. -/
theorem fooVariantsDifferInWrmEstOnly : Obligations.FooVariantsDifferInWrmEstOnly := by
  intro s ta tb ha hb
  obtain rfl := Host.Outcome.next.inj ((exec_fooStepA s).symm.trans ha)
  obtain rfl := Host.Outcome.next.inj ((exec_fooStepB s).symm.trans hb)
  rw [fooStep_B_eq]
  exact ⟨read_set_Wrm_est _ _, rfl⟩

/-- Settles O33: each register holds what its own stage computed (R196 to R199). The variants part at
Wrm_est, where each is asked for its own rule and for none of the other's. -/
theorem fooStepCompletesByItsStages : Obligations.FooStepCompletesByItsStages := by
  intro s
  dsimp only
  intro i variant
  obtain rfl | rfl := List.mem_pair.1 variant
  case inl =>
    refine ⟨_, exec_fooStepA s, rfl, ?_⟩
    generalize hw = P
    -- R196: the error, the estimated torque, the load torque, the feed-forward, the speed integrator
    refine ⟨rfl, rfl, rfl, rfl, rfl, ?_⟩
    -- R197 for Wrm_est; R197 and R199 for the angles and the load torque put out
    exact ⟨fun _ => rfl, nofun, rfl, rfl, rfl⟩
  case inr =>
    refine ⟨_, exec_fooStepB s, rfl, ?_⟩
    generalize hw = P
    -- R196, as in variant A
    refine ⟨rfl, rfl, rfl, rfl, rfl, ?_⟩
    -- R198 for Wrm_est; R198 and R199 for the angles and the load torque put out
    exact ⟨nofun, fun _ => rfl, rfl, rfl, rfl⟩

end Sys2Proof.Proofs

/-! ## Extended sensorless observer -/

namespace Sys2Proof.Proofs

open Sys2Proof.Machine

/-! ### The floor of the q estimate -/

/-- The value the floor sets meets the bound itself: |1.0| is not below 1.0 in binary32. -/
theorem abs_one_not_lt_one_hw : hw.lt (hw.abs (hw.ofDecimal 1 1)) (hw.ofDecimal 1 1) = false := by
  rw [ofDecimal_one_hw]
  decide

/-- R45 (c), R216: what the floor clamp lets through has a magnitude not below 1.0, for every operand, a NaN
included. -/
theorem abs_eemfFloor_not_lt_one (q : F32) :
    hw.lt (hw.abs (eemfFloor hw q)) (hw.ofDecimal 1 1) = false := by
  unfold eemfFloor
  split
  case isTrue => exact abs_one_not_lt_one_hw
  case isFalse notBelow => exact Bool.eq_false_iff.2 notBelow

/-- R215 and R216: the q estimate is the q axis' PI output, through the floor clamp. -/
theorem eemfStep_EEMFq_est {N : Type} (P : Params N) (th w : N) (c : Context N) :
    (eemfStep P th w c).eemf.EEMFq_est = eemfFloor P
      (P.add (P.mul (eemfStep P th w c).gain.Kp_eemf
          (P.sub (eemfStep P th w c).eemf.Iqse c.eemf.Iqse_est))
        (eemfStep P th w c).eemf.EEMFq_integ) := rfl

/-- R45 (c): the floor clamp is the last stage to write the q estimate. -/
theorem abs_eemfStep_EEMFq_est_not_lt_one (th w : F32) (c : Context F32) :
    hw.lt (hw.abs (eemfStep hw th w c).eemf.EEMFq_est) (hw.ofDecimal 1 1) = false := by
  rw [eemfStep_EEMFq_est]
  exact abs_eemfFloor_not_lt_one _

/-! ### The obligations -/

/-- Settles O35: each register holds what its own stage computed (R211 to R219), and the floor of the q
estimate is that of the clamp (R216). -/
theorem eemfStepCompletesByItsStages : Obligations.EemfStepCompletesByItsStages := by
  intro s
  dsimp only
  refine ⟨_, exec_eemfStep s, rfl, ?_⟩
  have floor := abs_eemfStep_EEMFq_est_not_lt_one s.ctx.a.A0 s.ctx.a.A1 s.ctx
  generalize hw = P at floor ⊢
  -- R211, and no other register; R212 and R213: the voltages and the currents on the estimated axes
  refine ⟨rfl, rfl, rfl, ?_⟩
  -- R214 and R215: each axis' error, integrator and output; R216: the q axis' output through the floor
  refine ⟨rfl, rfl, rfl, eemfStep_EEMFq_est P _ _ _, ?_⟩
  -- R217: the angle error; R218: each axis of the current model; R219: the references for the next step
  exact ⟨rfl, rfl, rfl, rfl, rfl, floor⟩

end Sys2Proof.Proofs

/-! ## Alignment -/

namespace Sys2Proof.Proofs

open Sys2Proof.Machine

/-! ### CC_STEP as the alignment calls it -/

section Stages

variable {N : Type} (P : Params N) (fr : ClampSite → N) (comp : Bool) (c : Context N)

/-- R140 with CC_LPF = 0: the step completes, and of the register file it writes the current controller, the
modulator and the outputs alone. -/
theorem ccStep_completes (i q th w : N) (lpf : P.eq c.tun.CC_LPF (P.ofDecimal 0 1) = true) :
    ∃ cc md out, ccStep P fr comp i q th w c = .ok { c with cc := cc, md := md, out := out } := by
  obtain ⟨t, drive⟩ : ∃ t, ccDrive P fr comp i q th w c = .ok t := ⟨_, ccDrive_ok _ _ _ _ _ _ _ _ lpf⟩
  obtain ⟨frame, -, -⟩ := ccDrive_frame P fr comp i q th w c t drive
  rw [ccStep, drive, frame]
  exact ⟨_, _, _, congrArg Except.ok (enableRequest_eq _)⟩

/-- CC_STEP reads no A register but through its operands. -/
theorem ccStep_withArgs (i q th w : N) (a : ArgRegs N) :
    ccStep P fr comp i q th w { c with a := a } =
      (ccStep P fr comp i q th w c).map (fun t => { t with a := a }) := by
  unfold ccStep
  rw [ccDrive_withArgs]
  cases ccDrive P fr comp i q th w c with
  | ok t => simp [Except.map, enableRequest_eq]
  | error r => rfl

/-! ### The tail, stage by stage (R230) -/

/-- No dwell test belongs to stages 0 and 3. -/
theorem alignTail_of_not_drives (st : BitVec 2) (h : alignDrives st = false) :
    alignTail P st c = { c with al.Align_time := P.add c.al.Align_time P.Ts } := by
  obtain ⟨not1, not2⟩ : st ≠ 1#2 ∧ st ≠ 2#2 := by simpa [alignDrives] using h
  simp [alignTail, not1, not2]

theorem alignTail_energize :
    alignTail P 1 c =
      if P.le c.tun.T_ALIGN1 (P.add c.al.Align_time P.Ts) then
        { c with al.Align_time := P.add c.al.Align_time P.Ts, al.Align_stage := 2 }
      else { c with al.Align_time := P.add c.al.Align_time P.Ts } := by
  simp [alignTail]

theorem alignTail_decay :
    alignTail P 2 c =
      if P.le c.tun.T_ALIGN2 (P.add c.al.Align_time P.Ts) then
        alignDone { c with al.Align_time := P.add c.al.Align_time P.Ts }
      else { c with al.Align_time := P.add c.al.Align_time P.Ts } := by
  simp [alignTail]

/-! ### ALIGN_STEP, stage by stage (R225) -/

/-- R226: no current controller, and no dwell test. -/
theorem alignStep_init (st : c.al.Align_stage = 0) :
    alignStep P fr comp c =
      .ok { alignInit P c with al.Align_time := P.add (P.ofDecimal 0 1) P.Ts } := by
  rw [alignStep, st]
  exact congrArg Except.ok (alignTail_of_not_drives P (alignInit P c) 0 rfl)

/-- R229: no current controller, and no dwell test. -/
theorem alignStep_done (st : c.al.Align_stage = 3) :
    alignStep P fr comp c =
      .ok { alignDone c with al.Align_time := P.add c.al.Align_time P.Ts } := by
  rw [alignStep, st]
  exact congrArg Except.ok (alignTail_of_not_drives P (alignDone c) 3 rfl)

/-- Stages 1 and 2 drive the current controller by the whole of CC_STEP: the enable request that ends it is
the one the stage's actions end in (R227, R228). -/
theorem alignStep_of_drives (i q th w : N) (drives : alignDrives c.al.Align_stage = true)
    (actions : alignActions P fr comp c.al.Align_stage c = ccDrive P fr comp i q th w c) :
    alignStep P fr comp c =
      (ccStep P fr comp i q th w c).map (alignTail P c.al.Align_stage) := by
  rw [alignStep, actions, ccStep, drives]
  cases ccDrive P fr comp i q th w c <;> rfl

theorem alignStep_energize (st : c.al.Align_stage = 1) :
    alignStep P fr comp c =
      (ccStep P fr comp c.cc.Idsr_ref (P.ofDecimal 0 1) (P.ofDecimal 0 1) (P.ofDecimal 0 1) c).map
        (alignTail P 1) := by
  rw [← st]
  exact alignStep_of_drives P fr comp c _ _ _ _ (by rw [st]; rfl) (by rw [st]; rfl)

/-- R228's own write of Idsr_ref is the one CC_STEP makes. -/
theorem alignStep_decay (st : c.al.Align_stage = 2) :
    alignStep P fr comp c =
      (ccStep P fr comp (P.ofDecimal 0 1) (P.ofDecimal 0 1) (P.ofDecimal 0 1) (P.ofDecimal 0 1) c).map
        (alignTail P 2) := by
  rw [← st]
  refine alignStep_of_drives P fr comp c _ _ _ _ (by rw [st]; rfl) ?_
  rw [st]
  exact ccDrive_withRef P fr comp _ _ _ _ c (P.ofDecimal 0 1)

end Stages

/-! ### The count over the reals (R232) -/

/-- What the register file holds after `n` calls, counted from stage 0, by the stage the next call begins in;
after the last call, that the alignment is complete. -/
inductive AlignCount (n : Nat) (c : Context ℝ) : Prop where
  | init (calls : n = 0) (stage : c.al.Align_stage = 0)
  | energize (lo : 1 ≤ n) (hi : n < 40000) (al : c.al = ⟨1, n / 10000, false⟩)
  | decay (lo : 40000 ≤ n) (hi : n < 50000) (al : c.al = ⟨2, n / 10000, false⟩)
  | complete (calls : n = 50000) (al : c.al = ⟨0, 5, true⟩)
      (mode : flag c.ctl.MODE .ALIGN = false)

/-- The settings R232 counts with, and that of CC_LPF with which CC_STEP has a meaning (R145). -/
structure AlignDefaults (tun : Tunables ℝ) : Prop where
  dwell1 : tun.T_ALIGN1 = 4
  dwell2 : tun.T_ALIGN2 = 5
  lpf : tun.CC_LPF = 0

/-- R230 at a sample period of 0.0001: one call more. -/
theorem calls_div_add_period (n : Nat) : (n : ℝ) / 10000 + 1 / 10000 = ((n + 1 : Nat) : ℝ) / 10000 := by
  push_cast
  ring

/-- A dwell of `d` seconds is reached by `10000 d` calls, exactly. -/
theorem dwell_le_calls_div (d n : Nat) : (d : ℝ) ≤ (n : ℝ) / 10000 ↔ d * 10000 ≤ n := by
  rw [le_div_iff₀ (by norm_num)]
  exact_mod_cast Iff.rfl

theorem flag_clearFlag_align_self (m : Word) : flag (clearFlag m .ALIGN) .ALIGN = false := by
  simp [flag, clearFlag, ModeFlag.mask, ModeFlag.bit]

section Count

variable (o : Reference.Open) (fr : ClampSite → ℝ) (comp : Bool) (n : Nat) (c : Context ℝ)

/-- R230 in Energize: call `n + 1` advances when it is call 40,000, and not before. -/
theorem alignTail_energize_count (period : o.Ts = 1 / 10000) (dwell : c.tun.T_ALIGN1 = 4)
    (lo : 1 ≤ n) (hi : n < 40000) (al : c.al = ⟨1, n / 10000, false⟩) :
    AlignCount (n + 1) (alignTail (Reference.params o) 1 c) := by
  have reached := dwell_le_calls_div 4 (n + 1)
  rw [alignTail_energize]
  simp only [Reference.params_le, Reference.params_add, Reference.params_Ts, al, period, dwell,
    calls_div_add_period, decide_eq_true_eq]
  split
  case isTrue h => exact .decay (reached.1 h) (by omega) rfl
  case isFalse h => exact .energize (by omega) (not_le.1 (fun hn => h (reached.2 hn))) rfl

/-- R230 in Decay: call `n + 1` completes when it is call 50,000, and not before. -/
theorem alignTail_decay_count (period : o.Ts = 1 / 10000) (dwell : c.tun.T_ALIGN2 = 5)
    (lo : 40000 ≤ n) (hi : n < 50000) (al : c.al = ⟨2, n / 10000, false⟩) :
    AlignCount (n + 1) (alignTail (Reference.params o) 2 c) := by
  have reached := dwell_le_calls_div 5 (n + 1)
  rw [alignTail_decay]
  simp only [Reference.params_le, Reference.params_add, Reference.params_Ts, al, period, dwell,
    calls_div_add_period, decide_eq_true_eq]
  split
  case isTrue h =>
    have last : n + 1 = 50000 := le_antisymm (by omega) (reached.1 h)
    refine .complete last ?_ (flag_clearFlag_align_self _)
    rw [last]
    norm_num [alignDone]
  case isFalse h => exact .decay (by omega) (not_le.1 (fun hn => h (reached.2 hn))) rfl

/-- One call carries the count on, in whichever stage it begins, and leaves the tunables alone. -/
theorem alignStep_count (period : o.Ts = 1 / 10000) (defaults : AlignDefaults c.tun)
    (count : AlignCount n c) (hn : n < 50000) :
    ∃ t, alignStep (Reference.params o) fr comp c = .ok t ∧ t.tun = c.tun ∧ AlignCount (n + 1) t := by
  obtain ⟨dwell1, dwell2, lpf⟩ := defaults
  have off : (Reference.params o).eq c.tun.CC_LPF ((Reference.params o).ofDecimal 0 1) = true := by
    simp [lpf]
  cases count with
  | init calls stage =>
    refine ⟨_, alignStep_init _ fr comp c stage, rfl, .energize (by omega) (by omega) ?_⟩
    simp [alignInit, calls, period]
  | energize lo hi al =>
    obtain ⟨cc, md, out, step⟩ := ccStep_completes _ fr comp c c.cc.Idsr_ref _ _ _ off
    refine ⟨alignTail _ 1 { c with cc := cc, md := md, out := out }, ?_, by simp,
      alignTail_energize_count o n _ period dwell1 lo hi al⟩
    rw [alignStep_energize _ fr comp c (by rw [al]), step]
    rfl
  | decay lo hi al =>
    obtain ⟨cc, md, out, step⟩ := ccStep_completes _ fr comp c _ _ _ _ off
    refine ⟨alignTail _ 2 { c with cc := cc, md := md, out := out }, ?_, by simp,
      alignTail_decay_count o n _ period dwell2 lo hi al⟩
    rw [alignStep_decay _ fr comp c (by rw [al]), step]
    rfl
  | complete calls => omega

end Count

/-! ### The obligations -/

/-- Settles O36, stage by stage (R226 to R229). In stages 1 and 2 the command CC_STEP and the alignment's call
of it leave the same register file but for the A registers, and the tail of R230 is what remains. -/
theorem alignStepByStage : Obligations.AlignStepByStage := by
  intro s
  dsimp only
  refine ⟨fun st => ?init, fun st => ?done, fun lpf st hst _ => ?drives⟩
  case init => rw [exec_alignStep, alignStep_init _ _ _ _ st]; rfl
  case done => rw [exec_alignStep, alignStep_done _ _ _ _ st]; rfl
  case drives =>
    rw [exec_ccStep, exec_alignStep]
    generalize hw.freeClamp s.draws = fr
    generalize flag s.ctx.ctl.MODE .COMP = comp
    generalize hw = P at lpf ⊢
    obtain ⟨cc, md, out, step⟩ := ccStep_completes P fr comp s.ctx
      (if st = 1 then s.ctx.cc.Idsr_ref else P.ofDecimal 0 1) (P.ofDecimal 0 1) (P.ofDecimal 0 1)
      (P.ofDecimal 0 1) lpf
    rw [ccStep_withArgs, step]
    refine ⟨_, rfl, ?_, ?_⟩
    · rintro rfl
      rw [if_pos rfl] at step
      rw [alignStep_energize _ _ _ _ hst, step]
      exact congrArg (fun x => Host.Outcome.next { s with ctx := x }) (alignTail_energize P _)
    · rintro rfl
      rw [if_neg (by decide)] at step
      rw [alignStep_decay _ _ _ _ hst, step]
      exact congrArg (fun x => Host.Outcome.next { s with ctx := x }) (alignTail_decay P _)

/-- Settles O37, by induction on the calls: each call carries the count on through the stages, and runs to its
end since CC_LPF stays 0. That Vdc is not 0 gives the duties their meaning (X2); no count depends on it. -/
theorem alignmentTakesFiftyThousandCalls : Obligations.AlignmentTakesFiftyThousandCalls := by
  intro o fr run period stage dwell1 dwell2 lpf _ runs
  have carries : ∀ n < 50000, AlignDefaults (run n).tun → AlignCount n (run n) →
      ∃ c, alignStep (Reference.params o) (fr n) (flag (run n).ctl.MODE .COMP) (run n) = .ok c ∧
        c.tun = (run n).tun ∧ AlignCount (n + 1) c :=
    fun n hn defaults count => alignStep_count o (fr n) _ n (run n) period defaults count hn
  have counts : ∀ n ≤ 50000, AlignDefaults (run n).tun ∧ AlignCount n (run n) := by
    intro n hn
    induction n with
    | zero => exact ⟨⟨dwell1, dwell2, lpf⟩, .init rfl stage⟩
    | succ n ih =>
      obtain ⟨defaults, count⟩ := ih (by omega)
      obtain ⟨c, step, tun, count⟩ := carries n hn defaults count
      rw [runs n hn c step]
      exact ⟨tun ▸ defaults, count⟩
  refine ⟨fun n hn => ?completes, fun n lo hi => ?before, ?last⟩
  case completes =>
    obtain ⟨defaults, count⟩ := counts n hn.le
    obtain ⟨c, step, -, -⟩ := carries n hn defaults count
    exact ⟨c, step⟩
  case before =>
    cases (counts n hi.le).2 with
    | init calls => omega
    | energize _ hi al => simp [al, hi]
    | decay lo _ al => simp [al, lo]
    | complete calls => omega
  case last =>
    cases (counts 50000 le_rfl).2 with
    | init calls => omega
    | energize _ hi => omega
    | decay _ hi => omega
    | complete _ al mode => simp [al, mode]

end Sys2Proof.Proofs

/-! ## Fault supervisor -/

namespace Sys2Proof.Proofs

open Sys2Proof.Machine

/-! ### Fault entry in the machine, and what trips the software check -/

/-- R243: READY is bit 0 of MODE and FAULT is bit 1. -/
theorem mode_faultEntry (m : Word) :
    setFlag (clearFlag m .READY) .FAULT = (m &&& ~~~1#32) ||| 2#32 := rfl

/-- R245: FAULT is bit 1 of MODE. -/
theorem mode_faultLeave (m : Word) : clearFlag m .FAULT = m &&& ~~~2#32 := rfl

/-- R243, R246: fault entry in binary32, register by register; only the code depends on the trigger. -/
theorem faultEntry_hw (k : FaultKind) (c : Context F32) :
    faultEntry hw k c =
      { c with
        out.PWM_EN := false, out.Duty_a := 0#32, out.Duty_b := 0#32, out.Duty_c := 0#32
        ctl.MODE := (c.ctl.MODE &&& ~~~1#32) ||| 2#32
        flt.Fault_code := faultCodeUpdate k c.flt.Fault_code
        flt.F_Vdc := c.meas.Vdc, flt.F_Idc := c.meas.Idc, flt.F_Ia := c.meas.Ia
        flt.F_Ib := c.meas.Ib, flt.F_Ic := c.meas.Ic, flt.F_Wr := c.sl.Wr_sel
        flt.Fault_cnt := c.flt.Fault_cnt + 1 } := by
  unfold faultEntry snapshot
  rw [zero_hw, mode_faultEntry]

/-- R241: one phase is enough to trip. -/
theorem overCurrent_iff {N : Type} (P : Params N) (c : Context N) :
    overCurrent P c = true ↔
      P.le (P.ofDecimal 80 1) (P.abs c.meas.Ia) = true ∨
        P.le (P.ofDecimal 80 1) (P.abs c.meas.Ib) = true ∨
        P.le (P.ofDecimal 80 1) (P.abs c.meas.Ic) = true := by
  simp only [overCurrent, Bool.or_eq_true, or_assoc]

/-! ### The obligations -/

/-- Settles O38: a trip is fault entry with the software code, which yields to a latched hardware code (R242). -/
theorem swFaultCheckTripsAtEighty : Obligations.SwFaultCheckTripsAtEighty := by
  intro s
  rw [exec_swFaultCheck]
  unfold swFaultCheck
  simp only [overCurrent_iff, faultEntry_hw, faultCodeUpdate_software]

/-- Settles O39: the command and the event are the one fault entry with the hardware code, which stands whatever
code was there (R242); the event is consumed and no part of a cycle runs. -/
theorem hwFaultEntersAsCommandAndEvent : Obligations.HwFaultEntersAsCommandAndEvent := by
  intro s
  have entered := faultEntry_hw .hardware s.ctx
  rw [faultCodeUpdate_hardware] at entered
  refine ⟨?command, fun rest arrives => ?event⟩
  case command => rw [exec_hwFault, entered]
  case event => rw [step_hwfault s rest arrives, entered]

/-- Settles O40: FAULT_CLEAR is the leave of R245, with FAULT at bit 1 of MODE. -/
theorem faultClearResetsCodeOnly : Obligations.FaultClearResetsCodeOnly := by
  intro s
  rw [exec_faultClear, faultLeave, mode_faultLeave]

end Sys2Proof.Proofs

/-! ## Mode dispatcher -/

namespace Sys2Proof.Proofs

open Sys2Proof.Machine

/-! ### The run modes in the priority order of R270 -/

/-- The bits of MODE that select a behaviour, with the behaviour of each, the first to be asked first. -/
def runModes : List (Nat × Behaviour) :=
  [(2, .RUN), (3, .HALL_TEST), (4, .DUTY_TEST), (5, .OL_CURRENT), (6, .VREF_GEN), (7, .OL_VOLTAGE),
    (8, .PARAM_EST), (9, .ALIGN)]

/-- A search of a list is one `if` for each element. -/
theorem find?_cons_map_getD {α β : Type} (p : α → Bool) (g : α → β) (d : β) (x : α) (xs : List α) :
    (((x :: xs).find? p).map g).getD d = if p x then g x else ((xs.find? p).map g).getD d := by
  rw [List.find?_cons]
  cases p x <;> rfl

/-- Ready and not faulted, the behaviour is that of the first set bit, and IDLE where there is none. -/
theorem behaviour_eq_find? (m : Word) (ready : m.getLsbD 0 = true) :
    behaviour m 0 = ((runModes.find? (fun p => m.getLsbD p.1)).map Prod.snd).getD .IDLE := by
  have awake : active m 0 = true := by simpa [active, flag, ModeFlag.bit] using ready
  simp only [behaviour, awake, runModes, find?_cons_map_getD]
  rfl

/-- The list is in ascending order of the bits, so below a bit that stands first among the set ones none
is set. -/
theorem find?_runModes_of_first (m : Word) (k : Nat) (b : Behaviour) (mem : (k, b) ∈ runModes)
    (hit : m.getLsbD k = true) (first : ∀ j, 2 ≤ j → j < k → m.getLsbD j = false) :
    runModes.find? (fun p => m.getLsbD p.1) = some (k, b) := by
  obtain ⟨before, after, cut⟩ := List.append_of_mem mem
  have ascending : runModes.Pairwise (fun p q => p.1 < q.1) := by decide
  have fromTwo : ∀ p ∈ runModes, 2 ≤ p.1 := by decide
  refine List.find?_eq_some_iff_append.2 ⟨hit, before, after, cut, fun p hp => ?_⟩
  obtain ⟨-, -, apart⟩ := List.pairwise_append.1 (cut ▸ ascending)
  have below : p.1 < k := apart p hp (k, b) List.mem_cons_self
  simp [first p.1 (fromTwo p (by simp [cut, hp])) below]

theorem find?_runModes_eq_none (m : Word) (clear : ∀ k, 2 ≤ k → k ≤ 9 → m.getLsbD k = false) :
    runModes.find? (fun p => m.getLsbD p.1) = none := by
  have range : ∀ p ∈ runModes, 2 ≤ p.1 ∧ p.1 ≤ 9 := by decide
  refine List.find?_eq_none.2 (fun p hp => ?_)
  obtain ⟨lo, hi⟩ := range p hp
  simp [clear p.1 lo hi]

/-! ### The source of the angle and the speed (R268, R271, R278) -/

/-- R271, one `if` for each of its clauses. -/
theorem selectSource_eq {N : Type} (P : Params N) (b : Behaviour) (m : Word) (c : Context N) :
    selectSource P b m c =
      if b = .OL_CURRENT ∨ b = .OL_VOLTAGE then
        { c with sp.Theta_ol := openLoopAngle P c, sl := ⟨openLoopAngle P c, c.sp.W_ol⟩ }
      else if b = .ALIGN then { c with sl := ⟨P.ofDecimal 0 1, P.ofDecimal 0 1⟩ }
      else if flag m .SENSORLESS then
        { c with sl := ⟨c.foo.Thetar_est, P.mul c.par.PP c.foo.Wrm_est⟩ }
      else { c with sl := ⟨c.hall.Thetar_hall, c.hall.Wr_hall⟩ } := by
  cases b <;> rfl

/-! ### The parts of S7 with no input pending -/

section Quiet

variable (s : State) (ph ph' : Phase) (l l' : Locals) (t : Context F32)

/-- A part of the cycle in progress that completes, other than the last. -/
theorem step_quiet_part (cyc : s.cyc = some ⟨ph, l⟩) (quiet : s.inputs = [])
    (follows : nextPhase ph = some ph')
    (done : phaseStep hw (hw.freeClamp s.draws) ph l s.ctx = .ok (l', t)) :
    step s = .next { s with ctx := t, cyc := some ⟨ph', l'⟩ } := by
  rw [step_nil s quiet]
  exact cycStep_part s ph ph' l l' t cyc follows done

/-- R276, R279: a behaviour that is refused refuses the step. -/
theorem step_S7run_refused (r : Refusal) (cyc : s.cyc = some ⟨.S7run, l⟩) (quiet : s.inputs = [])
    (refused : behave hw (hw.freeClamp s.draws) (behaviour l.m l.f) l.m s.ctx = .error r) :
    step s = .refused r := by
  rw [step_nil s quiet]
  refine cycStep_refused s .S7run l r cyc ?_
  rw [phaseStep, refused]
  rfl

end Quiet

/-! ### The idle path (R281) -/

/-- R281: the run-mode flags are bits 2 to 9 of MODE. -/
theorem clearRunModes_eq (m : Word) : clearRunModes m = m &&& ~~~0x3FC#32 := rfl

/-! ### The end of S7 (R286, R230, R284) -/

section Finish

variable {N : Type} (P : Params N) (l : Locals) (c : Context N)

/-- R286: the write of PWM_EN, made where an enable was requested and the latch read as clear. -/
theorem ite_enReq_enableWith :
    (if l.enReq then enableWith l.f2 c else c) =
      { c with out.PWM_EN := if l.enReq = true ∧ l.f2 = 0#2 then true else c.out.PWM_EN } := by
  unfold enableWith
  by_cases asked : l.enReq = true
  · by_cases clear : l.f2 = 0#2
    · simp [asked, clear]
    · simp [asked, clear]
  · simp [asked]

/-- R284: the abort, in a cycle whose behaviour is not ALIGN. -/
theorem finishS7_of_ne_align (sel : behaviour l.m l.f ≠ .ALIGN) :
    finishS7 P l c =
      { c with
        al.Align_stage := 0
        out.PWM_EN := if l.enReq = true ∧ l.f2 = 0#2 then true else c.out.PWM_EN } := by
  rw [finishS7, ite_enReq_enableWith]
  exact if_neg sel

/-- R230: in a cycle whose behaviour is ALIGN, the tail of the stage the call began in. -/
theorem finishS7_of_align (sel : behaviour l.m l.f = .ALIGN) :
    finishS7 P l c =
      alignTail P l.st
        { c with out.PWM_EN := if l.enReq = true ∧ l.f2 = 0#2 then true else c.out.PWM_EN } := by
  rw [finishS7, ite_enReq_enableWith]
  exact if_pos sel

/-- R230, both dwell tests in one expression. -/
theorem alignTail_eq (st : BitVec 2) :
    alignTail P st c =
      if st = 1 ∧ P.le c.tun.T_ALIGN1 (P.add c.al.Align_time P.Ts) = true then
        { c with al.Align_time := P.add c.al.Align_time P.Ts, al.Align_stage := 2 }
      else if st = 2 ∧ P.le c.tun.T_ALIGN2 (P.add c.al.Align_time P.Ts) = true then
        alignDone { c with al.Align_time := P.add c.al.Align_time P.Ts }
      else { c with al.Align_time := P.add c.al.Align_time P.Ts } := by
  simp [alignTail]

end Finish

/-! ### The obligations -/

/-- Settles O47: the flags are asked in the order of their bits, so the first found set is the lowest. -/
theorem behaviourIsFirstFlagInOrder : Obligations.BehaviourIsFirstFlagInOrder := by
  intro m f
  refine ⟨behaviour_idle m f, ?_⟩
  rintro ready rfl
  rw [behaviour_eq_find? m ready]
  refine ⟨fun clear => ?none, fun k b mem hit first => ?first⟩
  case none => rw [find?_runModes_eq_none m clear]; rfl
  case first => rw [find?_runModes_of_first m k b mem hit first]; rfl

/-- Settles O48: S7sel is the observers of R268 and then the choice of R271, clause by clause. -/
theorem selectedSourceByBehaviour : Obligations.SelectedSourceByBehaviour := by
  intro s l cyc quiet b v e c th
  refine step_quiet_part s .S7sel .S7run l l _ cyc quiet rfl ?_
  have observed : sensorless hw l.m s.ctx = c := rfl
  rw [phaseStep, observed, selectSource_eq]
  rfl

/-- Settles O52: neither behaviour has a meaning. -/
theorem undescribedModesAreRefused : Obligations.UndescribedModesAreRefused := by
  intro s l cyc quiet
  refine ⟨fun sel => ?vrefGen, fun sel => ?paramEst⟩
  case vrefGen => exact step_S7run_refused s l .vrefGen cyc quiet (by rw [sel, behave])
  case paramEst => exact step_S7run_refused s l .paramEst cyc quiet (by rw [sel, behave])

/-- Settles O53: the idle path is RESET_CTRL's file with PWM_EN and the run-mode flags cleared, and requests
no enable. -/
theorem idleBehaviourShutsDown : Obligations.IdleBehaviourShutsDown := by
  intro s l cyc quiet idle
  refine ⟨_, exec_resetCtrl s, step_S7run s l _ false cyc quiet ?_⟩
  rw [idle, behave, behaveIdle, clearRunModes_eq]

/-- Settles O54: S7fin is the write of R286, then the abort of R284 or the tail of R230. -/
theorem otherBehavioursAbortAlignment : Obligations.OtherBehavioursAbortAlignment := by
  intro s l cyc quiet
  have fin : step s = .next { s with ctx := finishS7 hw l s.ctx, cyc := some ⟨.S8, l⟩ } :=
    step_quiet_part s .S7fin .S8 l l _ cyc quiet rfl rfl
  refine ⟨fun sel => ?abort, fun sel => ?tail⟩
  case abort =>
    rw [finishS7_of_ne_align hw l s.ctx sel] at fin
    exact ⟨_, fin, rfl, rfl⟩
  case tail =>
    rw [fin, finishS7_of_align hw l s.ctx sel, alignTail_eq]
    rfl

end Sys2Proof.Proofs

/-! ## Encoding -/

namespace Sys2Proof.Proofs

open Sys2Proof.Machine

/-! ### What a row of the opcode map decodes to -/

/-- R81, R82: the operations of a row, each with the variant that names it. -/
def rowVariants : OpRow → List (Instr × BitVec 8)
  | .formatN i => [(i, 0)]
  | .formatV i0 i1 => [(i0, 0), (i1, 1)]

/-- R88's `var` step answers one of its row's operations, and only for the variant that names it. -/
theorem mem_rowVariants_of_decodeVar (row : OpRow) (var : BitVec 8) (i : Instr)
    (h : decodeVar row var = .ok i) : (i, var) ∈ rowVariants row := by
  cases row with
  | formatN j => by_cases h0 : var = 0 <;> simp_all [decodeVar, rowVariants]
  | formatV j0 j1 =>
    by_cases h0 : var = 0
    · simp_all [decodeVar, rowVariants]
    · by_cases h1 : var = 1 <;> simp_all [decodeVar, rowVariants]

/-- R84: the map lists each operation under the code and the variant that the encoder gives it. -/
theorem codes_of_mem_opRows :
    ∀ p ∈ opRows, ∀ q ∈ rowVariants p.2, opcOf q.1 = p.1 ∧ varOf q.1 = q.2 := by decide

/-- R88: an accepted word has its reserved bits zero, and its code and variant are those of the operation
it is decoded as. -/
theorem fields_of_decodeFields_ok (f : CmdFields) (i : Instr) (h : decodeFields f = .ok i) :
    f.rsv = 0 ∧ f.opc = opcOf i ∧ f.var = varOf i := by
  unfold decodeFields at h
  split at h
  · cases h
  · next rsv =>
    split at h
    · cases h
    · next row found =>
      obtain ⟨before, after, cut, -⟩ := List.lookup_eq_some_iff.1 found
      have listed : (f.opc, row) ∈ opRows := by rw [cut]; simp
      obtain ⟨opc, var⟩ := codes_of_mem_opRows _ listed _ (mem_rowVariants_of_decodeVar row f.var i h)
      exact ⟨not_not.1 rsv, opc.symm, var.symm⟩

/-- R81, R82, R88: the decoder reads back what the encoder writes. -/
theorem decode_encode (i : Instr) : decode (encode i) = .ok i := by cases i <;> rfl

/-- R80: a word is its fields, so an accepted word is the encoding of its operation. -/
theorem eq_encode_of_decode_ok (w : Word) (i : Instr) (h : decode w = .ok i) : w = encode i := by
  obtain ⟨rsv, opc, var⟩ := fields_of_decodeFields_ok (fieldsOf w) i h
  rw [word_eq_fields w, rsv, opc, var]
  rfl

/-! ### Which words are illegal -/

/-- R88 gives "every 32-bit word [...] exactly one verdict": it is rejected where it is not accepted. -/
theorem exists_error_iff {ε α : Type} (x : Except ε α) : (∃ e, x = .error e) ↔ ¬ ∃ a, x = .ok a := by
  cases x <;> simp

/-- R81, R82, R85: the variants that no operation of the code admits. -/
theorem varAdmitted_eq_false_iff (f : CmdFields) :
    f.varAdmitted = false ↔ (f.opc ≠ 0x24#8 ∧ f.var ≠ 0#8) ∨ (f.opc = 0x24#8 ∧ 2 ≤ f.var.toNat) := by
  have twoUp : ∀ v : BitVec 8, (v == 0 || v == 1) = false ↔ 2 ≤ v.toNat := by decide
  unfold CmdFields.varAdmitted
  by_cases foo : f.opc = 0x24#8
  · simpa [foo] using twoUp f.var
  · simp [foo]

/-- R85: a field check fails in one of three ways. -/
theorem not_wf_iff (f : CmdFields) :
    ¬ f.wf = true ↔ ¬ f.opc ∈ CmdFields.knownOpcs ∨ f.varAdmitted = false ∨ f.rsv ≠ 0#16 := by
  simp only [CmdFields.wf, CmdFields.opcKnown, CmdFields.rsvZero, Bool.and_eq_true, not_and_or,
    Bool.not_eq_true, List.contains_eq_mem, decide_eq_false_iff_not, beq_eq_false_iff_ne, or_assoc]
  rfl

/-! ### The obligations -/

/-- Settles O2: every operation's encoding is decoded as it, and an accepted word's fields are those of its
operation's encoding. -/
theorem decodeAcceptsExactlyEncodings : Obligations.DecodeAcceptsExactlyEncodings := by
  refine fun w i => ⟨eq_encode_of_decode_ok w i, ?_⟩
  rintro rfl
  exact decode_encode i

/-- Settles O3: a word is rejected where one of R85's three checks fails; the write of such a word is a
step of its own. -/
theorem illegalWordsSetStatusOnly : Obligations.IllegalWordsSetStatusOnly := by
  refine ⟨fun w => ?_, fun s w rest e arrives quiet illegal =>
    step_writeCmd_illegal s w rest e arrives quiet illegal⟩
  rw [exists_error_iff, decode_ok_iff_wf, not_wf_iff, varAdmitted_eq_false_iff, or_assoc]
  rfl

/-- Settles O1: the ten legal words are encodings, so each is decoded as its own operation; the four
illegal ones fail each at its own check of R88. -/
theorem commandWordsDecode : Obligations.CommandWordsDecode :=
  ⟨decode_encode .nop, decode_encode .initParams, decode_encode .resetCtrl, decode_encode .clarke,
    decode_encode .wrap, decode_encode .ccStep, decode_encode .fooStepA, decode_encode .fooStepB,
    decode_encode .faultClear, decode_encode .cycle, rfl, rfl, rfl, rfl⟩

end Sys2Proof.Proofs

/-! ## The registers an operation leaves alone -/

namespace Sys2Proof.Proofs

open Sys2Proof.Machine

/-! ### Register files that read alike -/

/-- Two register files read alike at every register outside a list. -/
def KeepsOutside (w : List Reg) (c t : Context F32) : Prop := ∀ r ∉ w, t.read r = c.read r

theorem KeepsOutside.refl (w : List Reg) (c : Context F32) : KeepsOutside w c c := fun _ _ => rfl

theorem KeepsOutside.trans {w : List Reg} {c d t : Context F32} (h : KeepsOutside w c d)
    (h' : KeepsOutside w d t) : KeepsOutside w c t :=
  fun r hr => (h' r hr).trans (h r hr)

theorem KeepsOutside.append {w v : List Reg} {c d t : Context F32} (h : KeepsOutside w c d)
    (h' : KeepsOutside v d t) : KeepsOutside (w ++ v) c t := by
  intro r hr
  rw [List.mem_append, not_or] at hr
  exact (h' r hr.2).trans (h r hr.1)

theorem KeepsOutside.mono {w v : List Reg} {c t : Context F32} (h : KeepsOutside w c t)
    (sub : w ⊆ v) : KeepsOutside v c t :=
  fun r hr => h r (fun hw => hr (sub hw))

/-- A list of registers as the bits at their indices, so that membership is one test of a number. -/
def regBits (w : List Reg) : Nat := w.foldr (fun r bits => bits ||| 1 <<< r.index) 0

theorem testBit_regBits (w : List Reg) (r : Reg) : (regBits w).testBit r.index = true ↔ r ∈ w := by
  induction w with
  | nil => simp [regBits]
  | cons q w ih =>
    have index : q.index = r.index ↔ r = q :=
      ⟨fun h => (Reg.index_inj q r h).symm, fun h => congrArg Reg.index h.symm⟩
    change (regBits w ||| 1 <<< q.index).testBit r.index = true ↔ _
    rw [Nat.testBit_or, Nat.one_shiftLeft, Nat.testBit_two_pow, Bool.or_eq_true, ih,
      decide_eq_true_eq, index, List.mem_cons, or_comm]

/-- Every register outside a list. -/
def regsOutside (w : List Reg) : List Reg := Reg.all.filter (fun r => !(regBits w).testBit r.index)

theorem mem_regsOutside (w : List Reg) (r : Reg) (h : r ∉ w) : r ∈ regsOutside w := by
  rw [← testBit_regBits, Bool.not_eq_true] at h
  simp [regsOutside, r.mem_all, h]

/-- The registers outside a list, read one after the other. -/
theorem keepsOutside_of_map {w : List Reg} {c t : Context F32}
    (h : (regsOutside w).map t.read = (regsOutside w).map c.read) : KeepsOutside w c t :=
  fun r hr => List.map_inj_left.1 h r (mem_regsOutside w r hr)

/-! ### Writes of one value -/

section Writes

variable (c : Context F32)

theorem setHall_keepsOutside (x : HallObs F32) : KeepsOutside Reg.hallRegs c { c with hall := x } :=
  keepsOutside_of_map rfl

theorem setAl_keepsOutside (x : Alignment F32) : KeepsOutside Reg.alRegs c { c with al := x } :=
  keepsOutside_of_map rfl

theorem setPwmEn_keepsOutside (x : Bool) : KeepsOutside [.PWM_EN] c { c with out.PWM_EN := x } :=
  keepsOutside_of_map rfl

/-- R243: what fault entry writes. -/
theorem setFaulted_keepsOutside (m : Word) (x : FaultState F32) (o : Outputs F32) :
    KeepsOutside faultWrites c { c with out := o, ctl.MODE := m, flt := x } :=
  keepsOutside_of_map rfl

theorem setFaultCodeAndMode_keepsOutside (x : BitVec 2) (m : Word) :
    KeepsOutside (writesOf .faultClear) c { c with flt.Fault_code := x, ctl.MODE := m } :=
  keepsOutside_of_map rfl

theorem setAlignmentAndMode_keepsOutside (x : Alignment F32) (m : Word) :
    KeepsOutside (.MODE :: Reg.alRegs) c { c with al := x, ctl.MODE := m } :=
  keepsOutside_of_map rfl

theorem setPwmEnAndMode_keepsOutside (x : Bool) (m : Word) :
    KeepsOutside [.PWM_EN, .MODE] c { c with out.PWM_EN := x, ctl.MODE := m } :=
  keepsOutside_of_map rfl

/-- R140: what CC_STEP writes. -/
theorem setCurrent_keepsOutside (cc : CurrentCtrl F32) (md : Modulator F32) (out : Outputs F32)
    (unsat : md.Iqsr_ref_unsat = c.md.Iqsr_ref_unsat) :
    KeepsOutside ccWrites c { c with cc := cc, md := md, out := out } := by
  obtain ⟨Idss, Iqss, Vdss, Vqss, Vas, Vbs, Vcs, Vsn, Van, Vbn, Vcn, x⟩ := md
  obtain rfl : x = _ := unsat
  exact keepsOutside_of_map rfl

end Writes

/-! ### The operations of one rule -/

section Operations

variable (P : Params F32) (fr : ClampSite → F32) (c : Context F32)

theorem result1_keepsOutside (x : F32) : KeepsOutside [.R0] c (c.result1 x) :=
  keepsOutside_of_map rfl

theorem result2_keepsOutside (x : F32 × F32) : KeepsOutside [.R0, .R1] c (c.result2 x) :=
  keepsOutside_of_map rfl

theorem result3_keepsOutside (x : F32 × F32 × F32) :
    KeepsOutside [.R0, .R1, .R2] c (c.result3 x) :=
  keepsOutside_of_map rfl

theorem result4_keepsOutside (x : F32 × F32 × F32 × F32) :
    KeepsOutside [.R0, .R1, .R2, .R3] c (c.result4 x) :=
  keepsOutside_of_map rfl

theorem initParams_keepsOutside : KeepsOutside (writesOf .initParams) c (initParams P c) :=
  keepsOutside_of_map rfl

theorem initCc_keepsOutside : KeepsOutside (writesOf .initCc) c (initCc P c) :=
  keepsOutside_of_map rfl

theorem initSc_keepsOutside : KeepsOutside (writesOf .initSc) c (initSc P c) :=
  keepsOutside_of_map rfl

theorem initPll_keepsOutside : KeepsOutside (writesOf .initPll) c (initPll P c) :=
  keepsOutside_of_map rfl

theorem initEemf_keepsOutside : KeepsOutside (writesOf .initEemf) c (initEemf P c) :=
  keepsOutside_of_map rfl

theorem initFoo_keepsOutside : KeepsOutside (writesOf .initFoo) c (initFoo P c) :=
  keepsOutside_of_map rfl

theorem updateGains_keepsOutside : KeepsOutside gainWrites c (updateGains P c) :=
  keepsOutside_of_map rfl

theorem scStep_keepsOutside (cmd wrm : F32) : KeepsOutside Reg.scRegs c (scStep P fr cmd wrm c) :=
  keepsOutside_of_map rfl

theorem torqueCtrl_keepsOutside (cmd : F32) : KeepsOutside [.Te_ref] c (torqueCtrl P cmd c) :=
  keepsOutside_of_map rfl

theorem hallStep_keepsOutside : KeepsOutside Reg.hallRegs c (hallStep P c) :=
  setHall_keepsOutside c _

theorem fooStep_keepsOutside (v : FooVariant) (err : F32) :
    KeepsOutside Reg.fooRegs c (fooStep P v err c) :=
  keepsOutside_of_map rfl

theorem eemfStep_keepsOutside (th w : F32) :
    KeepsOutside (writesOf .eemfStep) c (eemfStep P th w c) :=
  keepsOutside_of_map rfl

theorem faultEntry_keepsOutside (k : FaultKind) : KeepsOutside faultWrites c (faultEntry P k c) :=
  setFaulted_keepsOutside c _ _ _

theorem faultLeave_keepsOutside : KeepsOutside (writesOf .faultClear) c (faultLeave c) :=
  setFaultCodeAndMode_keepsOutside c _ _

theorem swFaultCheck_keepsOutside : KeepsOutside faultWrites c (swFaultCheck P c) := by
  unfold swFaultCheck
  split
  · exact faultEntry_keepsOutside P c .software
  · exact .refl _ c

/-! ### The current controller and the alignment -/

/-- A mapped value comes of a value. -/
theorem exists_ok_of_map_ok {ε α β : Type} {f : α → β} {x : Except ε α} {b : β}
    (h : x.map f = .ok b) : ∃ a, x = .ok a ∧ f a = b := by
  cases x with
  | error e => cases h
  | ok a => exact ⟨a, rfl, Except.ok.inj h⟩

theorem enableWith_keepsOutside (f : BitVec 2) : KeepsOutside [.PWM_EN] c (enableWith f c) := by
  unfold enableWith
  split
  · exact setPwmEn_keepsOutside c true
  · exact .refl _ c

/-- R140: CC_STEP up to point P1. -/
theorem ccDrive_keepsOutside (comp : Bool) (i q th w : F32) (t : Context F32)
    (h : ccDrive P fr comp i q th w c = .ok t) : KeepsOutside ccWrites c t := by
  obtain ⟨frame, -, unsat⟩ := ccDrive_frame P fr comp i q th w c t h
  rw [frame]
  exact setCurrent_keepsOutside c t.cc t.md t.out unsat

theorem ccStep_keepsOutside (comp : Bool) (i q th w : F32) (t : Context F32)
    (h : ccStep P fr comp i q th w c = .ok t) : KeepsOutside ccWrites c t := by
  obtain ⟨u, drive, rfl⟩ := exists_ok_of_map_ok h
  exact (ccDrive_keepsOutside P fr c comp i q th w u drive).trans
    ((enableWith_keepsOutside u _).mono (by decide))

theorem alignInit_keepsOutside : KeepsOutside (writesOf .alignStep) c (alignInit P c) :=
  keepsOutside_of_map rfl

theorem alignDone_keepsOutside : KeepsOutside (writesOf .alignStep) c (alignDone c) :=
  (setAlignmentAndMode_keepsOutside c _ _).mono (by decide)

theorem alignActions_keepsOutside (comp : Bool) (st : BitVec 2) (t : Context F32)
    (h : alignActions P fr comp st c = .ok t) : KeepsOutside (writesOf .alignStep) c t := by
  rcases alignActions_cases P fr comp st c t h with ⟨-, rfl⟩ | ⟨-, rfl⟩ | ⟨-, -, frame, -, unsat⟩
  · exact alignInit_keepsOutside P c
  · exact alignDone_keepsOutside c
  · rw [frame]
    exact (setCurrent_keepsOutside c t.cc t.md t.out unsat).mono (by decide)

theorem alignTail_keepsOutside (st : BitVec 2) :
    KeepsOutside (writesOf .alignStep) c (alignTail P st c) := by
  have timed (x : Alignment F32) : KeepsOutside (writesOf .alignStep) c { c with al := x } :=
    (setAl_keepsOutside c x).mono (by decide)
  rw [alignTail_eq]
  split
  · exact timed _
  · split
    · exact (timed _).trans (alignDone_keepsOutside _)
    · exact timed _

theorem alignStep_keepsOutside (comp : Bool) (t : Context F32)
    (h : alignStep P fr comp c = .ok t) : KeepsOutside (writesOf .alignStep) c t := by
  obtain ⟨u, actions, rfl⟩ := exists_ok_of_map_ok h
  refine (alignActions_keepsOutside P fr c comp _ u actions).trans (.trans ?_
    (alignTail_keepsOutside P _ _))
  split
  · exact (enableWith_keepsOutside u _).mono (by decide)
  · exact .refl _ u

/-! ### The cycle, part by part -/

theorem convVoltage_keepsOutside (l : Locals) :
    KeepsOutside [.Vdc, .Vdc_lpf] c (convVoltage P l c) :=
  keepsOutside_of_map rfl

theorem setCal_keepsOutside (x : Calibration F32) : KeepsOutside Reg.calRegs c { c with cal := x } :=
  keepsOutside_of_map rfl

theorem setIa_keepsOutside (x : F32) : KeepsOutside [.Ia] c { c with meas.Ia := x } :=
  keepsOutside_of_map rfl

theorem setIb_keepsOutside (x : F32) : KeepsOutside [.Ib] c { c with meas.Ib := x } :=
  keepsOutside_of_map rfl

theorem setIc_keepsOutside (x : F32) : KeepsOutside [.Ic] c { c with meas.Ic := x } :=
  keepsOutside_of_map rfl

theorem setCycleCnt_keepsOutside (x : Word) :
    KeepsOutside [.CYCLE_CNT] c { c with ctl.CYCLE_CNT := x } :=
  keepsOutside_of_map rfl

theorem setSl_keepsOutside (x : Selected F32) : KeepsOutside Reg.slRegs c { c with sl := x } :=
  keepsOutside_of_map rfl

theorem setOpenLoop_keepsOutside (x : F32) (y : Selected F32) :
    KeepsOutside (.Theta_ol :: Reg.slRegs) c { c with sp.Theta_ol := x, sl := y } :=
  keepsOutside_of_map rfl

theorem setAlignStage_keepsOutside (x : BitVec 2) :
    KeepsOutside [.Align_stage] c { c with al.Align_stage := x } :=
  keepsOutside_of_map rfl

theorem setDuties_keepsOutside (d : F32 × F32 × F32) :
    KeepsOutside [.Duty_a, .Duty_b, .Duty_c] c (setDuties d c) :=
  keepsOutside_of_map rfl

theorem torqueToCurrent_keepsOutside :
    KeepsOutside [.Iqsr_ref_unsat] c (torqueToCurrent P c) :=
  keepsOutside_of_map rfl

theorem resetControllers_keepsOutside :
    KeepsOutside (writesOf .resetCtrl) c (resetControllers P c) :=
  resetControllers_read_frame P c

/-- R268: the two observers. -/
theorem sensorless_keepsOutside (m : Word) :
    KeepsOutside (writesOf .eemfStep ++ Reg.fooRegs) c (sensorless P m c) := by
  unfold sensorless
  split
  · exact (eemfStep_keepsOutside P c _ _).append (fooStep_keepsOutside P _ _ _)
  · exact .refl _ c

theorem selectSource_keepsOutside (b : Behaviour) (m : Word) :
    KeepsOutside (.Theta_ol :: Reg.slRegs) c (selectSource P b m c) := by
  have selected (x : Selected F32) : KeepsOutside (.Theta_ol :: Reg.slRegs) c { c with sl := x } :=
    (setSl_keepsOutside c x).mono (by decide)
  rw [selectSource_eq]
  split
  · exact setOpenLoop_keepsOutside c _ _
  · split
    · exact selected _
    · split
      · exact selected _
      · exact selected _

/-- R272, R166: the reference a RUN drives the current controller with. -/
theorem behaveRun_eq {N : Type} (P : Params N) (fr : ClampSite → N) (m : Word) (c : Context N) :
    behaveRun P fr m c =
      let d := if flag m .TORQUE_SEL then torqueCtrl P c.sp.Torque_cmd c
        else scStep P fr c.sp.Wrpm_cmd (P.div c.sl.Wr_sel c.par.PP) c
      let u := torqueToCurrent P d
      ccDrive P fr (flag m .COMP) (P.ofDecimal 0 1) (iqLimited P fr u) u.sl.Thetar_sel u.sl.Wr_sel u :=
  rfl

theorem behaveRun_keepsOutside (m : Word) (t : Context F32) (h : behaveRun P fr m c = .ok t) :
    KeepsOutside (Reg.scRegs ++ ([Reg.Iqsr_ref_unsat] ++ ccWrites)) c t := by
  have controlled : KeepsOutside Reg.scRegs c (if flag m .TORQUE_SEL then torqueCtrl P c.sp.Torque_cmd c
      else scStep P fr c.sp.Wrpm_cmd (P.div c.sl.Wr_sel c.par.PP) c) := by
    split
    · exact (torqueCtrl_keepsOutside P c _).mono (by decide)
    · exact scStep_keepsOutside P fr c _ _
  rw [behaveRun_eq] at h
  dsimp only at h
  have drive := ccDrive_keepsOutside P fr _ _ _ _ _ _ t h
  exact controlled.append ((torqueToCurrent_keepsOutside P _).append drive)

theorem behaveHallTest_keepsOutside : KeepsOutside Reg.outRegs c (behaveHallTest P c) := by
  unfold behaveHallTest
  split
  · exact (setDuties_keepsOutside c _).mono (by decide)
  · exact (setDuties_keepsOutside c _).append (setPwmEn_keepsOutside _ _)

theorem behaveOlVoltage_keepsOutside (m : Word) :
    KeepsOutside ccWrites c (behaveOlVoltage P fr m c) :=
  setCurrent_keepsOutside c _ _ _ rfl

theorem behaveIdle_keepsOutside :
    KeepsOutside (writesOf .resetCtrl ++ [Reg.PWM_EN, Reg.MODE]) c (behaveIdle P c) :=
  (resetControllers_keepsOutside P c).append (setPwmEnAndMode_keepsOutside _ _ _)

/-- R272 to R281. -/
theorem behave_keepsOutside (b : Behaviour) (m : Word) (t : Context F32 × Bool)
    (h : behave P fr b m c = .ok t) : KeepsOutside (writesOf .cycle) c t.1 := by
  cases b with
  | RUN =>
    obtain ⟨u, run, rfl⟩ := exists_ok_of_map_ok h
    exact (behaveRun_keepsOutside P fr c m u run).mono (by decide)
  | HALL_TEST =>
    obtain rfl := Except.ok.inj h
    exact (behaveHallTest_keepsOutside P c).mono (by decide)
  | DUTY_TEST =>
    obtain rfl := Except.ok.inj h
    exact (setDuties_keepsOutside c _).mono (by decide)
  | OL_CURRENT =>
    obtain ⟨u, drive, rfl⟩ := exists_ok_of_map_ok h
    exact (ccDrive_keepsOutside P fr c _ _ _ _ _ u drive).mono (by decide)
  | VREF_GEN => cases h
  | OL_VOLTAGE =>
    obtain rfl := Except.ok.inj h
    exact (behaveOlVoltage_keepsOutside P fr c m).mono (by decide)
  | PARAM_EST => cases h
  | ALIGN =>
    obtain ⟨u, actions, rfl⟩ := exists_ok_of_map_ok h
    exact (alignActions_keepsOutside P fr c _ _ u actions).mono (by decide)
  | IDLE =>
    obtain rfl := Except.ok.inj h
    exact (behaveIdle_keepsOutside P c).mono (by decide)

/-- R284, R286, R230. -/
theorem finishS7_keepsOutside (l : Locals) : KeepsOutside (writesOf .cycle) c (finishS7 P l c) := by
  have enabled : KeepsOutside (writesOf .cycle) c (if l.enReq then enableWith l.f2 c else c) := by
    split
    · exact (enableWith_keepsOutside c _).mono (by decide)
    · exact .refl _ c
  unfold finishS7
  dsimp only
  split
  · exact enabled.trans ((alignTail_keepsOutside P _ _).mono (by decide))
  · exact enabled.trans ((setAlignStage_keepsOutside _ _).mono (by decide))

/-- A part of S3 that acts in a converting cycle only. -/
theorem ite_keepsOutside (p : Bool) (w : List Reg) (t : Context F32) (h : KeepsOutside w c t) :
    KeepsOutside w c (if p then t else c) := by
  cases p
  · exact .refl w c
  · exact h

/-- R261 to R286: no part of a cycle writes a register that CYCLE does not. -/
theorem phaseStep_keepsOutside (ph : Phase) (l l' : Locals) (t : Context F32)
    (h : phaseStep P fr ph l c = .ok (l', t)) : KeepsOutside (writesOf .cycle) c t := by
  cases ph with
  | S1 => cases h; exact (setCycleCnt_keepsOutside c _).mono (by decide)
  | S3a =>
    rw [phaseStep] at h
    split at h
    · cases h; exact (setIa_keepsOutside c _).mono (by decide)
    · cases h; exact (setCal_keepsOutside c _).mono (by decide)
  | S3b => cases h; exact (ite_keepsOutside c _ _ _ (setIb_keepsOutside c _)).mono (by decide)
  | S3c => cases h; exact (ite_keepsOutside c _ _ _ (setIc_keepsOutside c _)).mono (by decide)
  | S3d => cases h; exact (ite_keepsOutside c _ _ _ (convVoltage_keepsOutside P c l)).mono (by decide)
  | S4 => cases h; exact (swFaultCheck_keepsOutside P c).mono (by decide)
  | S5 => cases h; exact (updateGains_keepsOutside P c).mono (by decide)
  | S6 => cases h; exact (hallStep_keepsOutside P c).mono (by decide)
  | S7sel =>
    cases h
    exact ((sensorless_keepsOutside P c _).append (selectSource_keepsOutside P _ _ _)).mono (by decide)
  | S7run =>
    obtain ⟨r, done, hr⟩ := exists_ok_of_map_ok h
    cases hr
    exact behave_keepsOutside P fr c _ _ r done
  | S7fin => cases h; exact finishS7_keepsOutside P c l
  | S2 | S7snap | S7latch | S8 => cases h; exact .refl _ c

/-- What every part of a cycle keeps, the cycle keeps. -/
theorem runPhases_induction {N : Type} (P : Params N) (fr : ClampSite → N)
    (R : Context N → Context N → Prop) (refl : ∀ c, R c c) (trans : ∀ c d t, R c d → R d t → R c t)
    (part : ∀ ph l l' c t, phaseStep P fr ph l c = .ok (l', t) → R c t) (phs : List Phase)
    (l : Locals) (c t : Context N) (h : runPhases P fr phs l c = .ok t) : R c t := by
  induction phs generalizing l c with
  | nil => exact Except.ok.inj h ▸ refl c
  | cons ph phs ih =>
    rw [runPhases_cons] at h
    split at h
    · next l' d done => exact trans c d t (part ph l l' c d done) (ih l' d h)
    · cases h

theorem cycle_keepsOutside (t : Context F32) (h : cycle P fr c = .ok t) :
    KeepsOutside (writesOf .cycle) c t :=
  runPhases_induction P fr (KeepsOutside (writesOf .cycle)) (.refl _) (fun _ _ _ => .trans)
    (fun ph l l' c t => phaseStep_keepsOutside P fr c ph l l' t) cyclePhases _ c t h

end Operations

/-! ### The obligation -/

/-- R83: a command answers with its register file and nothing else of the state. -/
theorem frame_of_next {w : List Reg} {s t : State} {c : Context F32} (keeps : KeepsOutside w s.ctx c)
    (h : Host.Outcome.next { s with ctx := c } = (.next t : Host.Outcome State Fault Refusal)) :
    t = { s with ctx := t.ctx } ∧ KeepsOutside w s.ctx t.ctx := by
  cases h
  exact ⟨rfl, keeps⟩

theorem frame_of_outcomeOf {w : List Reg} {s t : State} {x : Except Refusal (Context F32)}
    (keeps : ∀ c, x = .ok c → KeepsOutside w s.ctx c) (h : outcomeOf s x = .next t) :
    t = { s with ctx := t.ctx } ∧ KeepsOutside w s.ctx t.ctx := by
  obtain ⟨done, rest⟩ := outcomeOf_next s t x h
  exact ⟨rest, keeps t.ctx done⟩

/-- Settles O59, operation by operation: each is its own function on the register file, and CYCLE is its
parts. -/
theorem execWritesOnlyItsRegisters : Obligations.ExecWritesOnlyItsRegisters := by
  intro i s t h
  cases i with
  | nop => exact frame_of_next (.refl _ _) h
  | initParams => exact frame_of_next (initParams_keepsOutside hw _) h
  | initCc => exact frame_of_next (initCc_keepsOutside hw _) h
  | initSc => exact frame_of_next (initSc_keepsOutside hw _) h
  | initPll => exact frame_of_next (initPll_keepsOutside hw _) h
  | initEemf => exact frame_of_next (initEemf_keepsOutside hw _) h
  | initFoo => exact frame_of_next (initFoo_keepsOutside hw _) h
  | updateGains => exact frame_of_next (updateGains_keepsOutside hw _) h
  | resetCtrl => exact frame_of_next (resetControllers_keepsOutside hw _) h
  | clarke | park | ipark => exact frame_of_next (result2_keepsOutside _ _) h
  | iclarke => exact frame_of_next (result3_keepsOutside _ _) h
  | svmOffset => exact frame_of_next (result4_keepsOutside _ _) h
  | dtComp | duty | wrap => exact frame_of_next (result1_keepsOutside _ _) h
  | ccStep => exact frame_of_outcomeOf (ccStep_keepsOutside hw _ _ _ _ _ _ _) h
  | scStep => exact frame_of_next (scStep_keepsOutside hw _ _ _ _) h
  | torqueCtrl => exact frame_of_next (torqueCtrl_keepsOutside hw _ _) h
  | hallStep => exact frame_of_next (hallStep_keepsOutside hw _) h
  | fooStepA => exact frame_of_next (fooStep_keepsOutside hw _ .A _) h
  | fooStepB => exact frame_of_next (fooStep_keepsOutside hw _ .B _) h
  | eemfStep => exact frame_of_next (eemfStep_keepsOutside hw _ _ _) h
  | alignStep => exact frame_of_outcomeOf (alignStep_keepsOutside hw _ _ _) h
  | swFaultCheck => exact frame_of_next (swFaultCheck_keepsOutside hw _) h
  | hwFault => exact frame_of_next (faultEntry_keepsOutside hw _ .hardware) h
  | faultClear => exact frame_of_next (faultLeave_keepsOutside _) h
  | cycle => exact frame_of_outcomeOf (cycle_keepsOutside hw _ _) h

end Sys2Proof.Proofs

/-! ## Steps and host accesses -/

namespace Sys2Proof.Proofs

open Sys2Proof.Machine

/-! ### What a HOST write makes a register read as (R63) -/

section Writes

variable (c : Context F32)

theorem setCtl_keepsOutside (x : Control) : KeepsOutside Reg.ctlRegs c { c with ctl := x } :=
  keepsOutside_of_map rfl

theorem setA_keepsOutside (x : ArgRegs F32) : KeepsOutside Reg.aRegs c { c with a := x } :=
  keepsOutside_of_map rfl

theorem setBw_keepsOutside (x : Bandwidths F32) : KeepsOutside Reg.bwRegs c { c with bw := x } :=
  keepsOutside_of_map rfl

theorem setTun_keepsOutside (x : Tunables F32) : KeepsOutside Reg.tunRegs c { c with tun := x } :=
  keepsOutside_of_map rfl

theorem setSmp_keepsOutside (x : Samples F32) : KeepsOutside Reg.smpRegs c { c with smp := x } :=
  keepsOutside_of_map rfl

theorem setMeas_keepsOutside (x : Measured F32) : KeepsOutside Reg.measRegs c { c with meas := x } :=
  keepsOutside_of_map rfl

theorem setSp_keepsOutside (x : Setpoints F32) : KeepsOutside Reg.spRegs c { c with sp := x } :=
  keepsOutside_of_map rfl

end Writes

/-- A write within one group: the registers of that group alone are left to be read. -/
theorem keepsOutside_of_group {g w : List Reg} {c t : Context F32} (outside : KeepsOutside g c t)
    (inside : (g.filter (fun r => !(regBits w).testBit r.index)).map t.read =
      (g.filter (fun r => !(regBits w).testBit r.index)).map c.read) : KeepsOutside w c t := by
  intro r hr
  by_cases mem : r ∈ g
  · rw [← testBit_regBits, Bool.not_eq_true] at hr
    exact List.map_inj_left.1 inside r (List.mem_filter.2 ⟨mem, by rw [hr]; rfl⟩)
  · exact outside r mem

/-- R63, R67: a HOST write changes one register at most, the one it names. -/
theorem hostStore_keepsOutside (c : Context F32) (v : Word) (r : Reg) :
    KeepsOutside [r] c (c.hostStore v r) := by
  cases r with
  | CMD | STATUS | MODE =>
    dsimp only [Context.hostStore]
    exact keepsOutside_of_group (setCtl_keepsOutside c _) rfl
  | A0 | A1 | A2 | A3 | A4 | A5 | A6 | A7 | A8 | A9 | A10 | A11 =>
    dsimp only [Context.hostStore]
    exact keepsOutside_of_group (setA_keepsOutside c _) rfl
  | Wcc | Wsc | Wpll | Wc_eemf =>
    dsimp only [Context.hostStore]
    exact keepsOutside_of_group (setBw_keepsOutside c _) rfl
  | Kad | Kaq | Ka_sc | CC_LPF | DT_A | DT_B | ACC_MAX | T_ALIGN1 | T_ALIGN2 =>
    dsimp only [Context.hostStore]
    exact keepsOutside_of_group (setTun_keepsOutside c _) rfl
  | ADC_RAW0 | ADC_RAW1 | ADC_RAW2 | ADC_RAW3 | HALL_IN | ADC_GAIN0 | ADC_GAIN1 | ADC_GAIN2
  | ADC_GAIN3 =>
    dsimp only [Context.hostStore]
    exact keepsOutside_of_group (setSmp_keepsOutside c _) rfl
  | Idc =>
    dsimp only [Context.hostStore]
    exact keepsOutside_of_group (setMeas_keepsOutside c _) rfl
  | Wrpm_cmd | Torque_cmd | Id_ol_ref | Iq_ol_ref | Vd_ol_ref | Vq_ol_ref | W_ol | Duty_test_a
  | Duty_test_b | Duty_test_c | Hall_test_sel =>
    dsimp only [Context.hostStore]
    exact keepsOutside_of_group (setSp_keepsOutside c _) rfl
  | _ => exact .refl _ c

/-- R63: STATUS "clears each bit whose written bit is 1". -/
theorem statusWord_statusHostWrite (b : Bool) (v : Word) :
    statusWord (statusHostWrite b v) = statusWord b &&& ~~~v := by
  cases b with
  | false => simp [statusWord, statusHostWrite]
  | true =>
    ext k hk
    cases k <;> cases h : v.getLsbD 0 <;> simp_all [statusWord, statusHostWrite]

/-- R8: an integer register keeps the low bits of its width. -/
theorem setWidth_setWidth_eq_and (n : Nat) (v : Word) :
    (v.setWidth n).setWidth 32 = v &&& BitVec.ofNat 32 (2 ^ n - 1) := by
  refine BitVec.eq_of_getLsbD_eq fun k hk => ?_
  simp only [BitVec.getLsbD_setWidth, BitVec.getLsbD_and, BitVec.getLsbD_ofNat,
    Nat.testBit_two_pow_sub_one, hk, decide_true, Bool.true_and, Bool.and_comm]

/-! ### Steps on a HOST access -/

/-- A HOST access on the byte bus of the shape of R61 is what it is on the word interface. -/
theorem move_busWrite (s : State) (a : BitVec 11) (bs : List Byte) (rest : List Input)
    (h : s.inputs = .busWrite a bs :: rest) (shape : busAligned a bs.length = true) :
    move s = hostWrite s { s with inputs := rest } (busIndex a) (wordOfBytes bs) := by
  rw [move, h]
  exact if_pos shape

theorem move_busRead (s : State) (a : BitVec 11) (n : Nat) (rest : List Input)
    (h : s.inputs = .busRead a n :: rest) (shape : busAligned a n = true) :
    move s = hostRead s { s with inputs := rest } (busIndex a) := by
  rw [move, h]
  exact if_pos shape

theorem move_hostWrite (s : State) (i : RegIndex) (v : Word) (rest : List Input)
    (h : s.inputs = .hostWrite i v :: rest) :
    move s = hostWrite s { s with inputs := rest } i v := by
  rw [move, h]
  rfl

theorem move_hostRead (s : State) (i : RegIndex) (rest : List Input)
    (h : s.inputs = .hostRead i :: rest) : move s = hostRead s { s with inputs := rest } i := by
  rw [move, h]
  rfl

theorem step_congr (s t : State) (h : move s = move t) : step s = step t := by rw [step, step, h]

/-- Only a write that waits looks at the state with the write still to come. -/
theorem hostWrite_of_admitted (held held' s : State) (i : RegIndex) (v : Word)
    (h : hostAdmitted s = true ∨ i = cmdIndex) : hostWrite held s i v = hostWrite held' s i v := by
  unfold hostWrite
  split
  · rfl
  · next other => rw [if_pos (h.resolve_right other), if_pos (h.resolve_right other)]

theorem hostRead_of_admitted (held held' s : State) (i : RegIndex) (h : hostAdmitted s = true) :
    hostRead held s i = hostRead held' s i := by
  rw [hostRead, hostRead, if_pos h, if_pos h]

theorem hostWrite_waits (held s : State) (i : RegIndex) (v : Word) (h : hostAdmitted s = false)
    (hi : i ≠ cmdIndex) : hostWrite held s i v = .done (cycStep held) := by
  rw [hostWrite, if_neg hi, if_neg (by simp [h])]

theorem hostRead_waits (held s : State) (i : RegIndex) (h : hostAdmitted s = false) :
    hostRead held s i = .done (cycStep held) := by
  rw [hostRead, if_neg (by simp [h])]

/-- R5: CYC may move before whatever is next. -/
theorem step_cons_cyc (s : State) : step { s with inputs := .cyc :: s.inputs } = cycStep s :=
  step_cyc _ s.inputs rfl

/-- R145: CC_STEP whole is refused where its stages are. -/
theorem ccStep_refused {N : Type} (P : Params N) (fr : ClampSite → N) (comp : Bool) (i q th w : N)
    (c : Context N) (h : P.eq c.tun.CC_LPF (P.ofDecimal 0 1) = false) :
    ccStep P fr comp i q th w c = .error .smoothing := by
  rw [ccStep, ccDrive_refused P fr comp i q th w c h]
  rfl

/-! ### The obligations -/

/-- Settles O4: the write stores the word and runs its operation, and the draws of a command end with it. -/
theorem stepRunsDecodedCommand : Obligations.StepRunsDecodedCommand := by
  intro s w rest i arrives quiet legal
  rw [step_writeCmd_legal s w rest i arrives quiet legal]
  refine ⟨fun t done => ?_, fun r refused => ?_⟩
  · rw [done]; rfl
  · rw [refused]; rfl

/-- Settles O5: with no input CYC is asked, and has nothing to do. -/
theorem idleCoreDoesNothing : Obligations.IdleCoreDoesNothing :=
  fun s quiet idle => (step_nil s quiet).trans (cycStep_idle s idle)

/-- Settles O6: the word is that of the register found at the index, and there is one at most. -/
theorem hostReadHasNoSideEffect : Obligations.HostReadHasNoSideEffect := by
  intro s i rest arrives admitted
  refine ⟨_, step_hostRead s i rest arrives admitted, fun r at_i => ?_, fun absent => ?_⟩
  · rw [regRead, (Reg.ofIndex_eq_some i r).2 at_i]
  · rw [regRead, (Reg.ofIndex_eq_none i).2 absent]

/-- Settles O7: CMD is not read-only, so the index is another, and the store there leaves the file as it
is. -/
theorem readOnlyWritesChangeNothing : Obligations.ReadOnlyWritesChangeNothing := by
  intro s i v rest arrives admitted readOnly
  have notCmd : i ≠ cmdIndex := by
    rintro rfl
    exact absurd (readOnly .CMD rfl) (by decide)
  have kept : regStore s.ctx i v = s.ctx := by
    cases found : Reg.ofIndex i with
    | none => exact regStore_absent _ _ _ found
    | some r =>
      rw [regStore, found]
      exact Context.hostStore_readOnly _ _ _ (readOnly r (Reg.index_of_ofIndex i r found))
  rw [step_hostWrite s i v rest arrives notCmd admitted, kept]

/-- Settles O8: the write changes no other register, and what the written one then reads as is told class by
class: MODE and STATUS by their own rules, the narrow registers by their width. -/
theorem hostWriteStoresByClass : Obligations.HostWriteStoresByClass := by
  intro s r v rest arrives admitted notCmd
  have written := step_hostWrite s r.at v rest arrives (fun h => notCmd ((Reg.at_eq_cmdIndex r).1 h))
    admitted
  rw [regStore_at] at written
  refine ⟨_, written, rfl, rfl, fun q hq => ?others, ?self⟩
  case others => exact hostStore_keepsOutside s.ctx v r q (by simpa using hq)
  case self =>
    cases r with
    | CMD => exact absurd rfl notCmd
    | MODE => rfl
    | STATUS => exact statusWord_statusHostWrite s.ctx.ctl.CMD_ILLEGAL v
    | ADC_RAW0 | ADC_RAW1 | ADC_RAW2 | ADC_RAW3 => exact setWidth_setWidth_eq_and 12 v
    | HALL_IN | Hall_test_sel => exact setWidth_setWidth_eq_and 3 v
    | _ => rfl

/-- Settles O9: both are refused whatever the part of the cycle. -/
theorem commandAndTickRefusedDuringCycle : Obligations.CommandAndTickRefusedDuringCycle := by
  intro s p rest busy
  refine ⟨fun v arrives => step_writeCmd_busy s v rest p arrives busy, fun arrives => ?_⟩
  rw [step_tick s rest arrives, tick, busy]

/-- Settles O10: the step is CYC's, as if `cyc` were the next input. -/
theorem hostWaitsInsideStep : Obligations.HostWaitsInsideStep := by
  intro s i v rest inside arrives
  rw [step_cons_cyc]
  rcases arrives with arrives | ⟨arrives, notCmd⟩
  · exact step_hostWaits s _ rest arrives (.inl ⟨i, rfl⟩) inside
  · exact step_hostWaits s _ rest arrives (.inr ⟨i, v, rfl, notCmd⟩) inside

/-- Settles O11: the two access interfaces make one move, but for an access that waits, where the move is
CYC's. -/
theorem busAccessIsTheWordAccess : Obligations.BusAccessIsTheWordAccess := by
  intro s rest
  refine ⟨fun i b0 b1 b2 b3 arrives => ?write, fun i arrives => ?read, fun a n arrives shape => ?badRead,
    fun a bs arrives shape => ?badWrite⟩
  case write =>
    have access := move_busWrite s _ _ rest arrives (busAligned_four_mul i)
    rw [busIndex_four_mul, wordOfBytes_four] at access
    refine ⟨fun admitted => step_congr _ _ ?_, fun inside notCmd => ?_⟩
    · rw [access, move_hostWrite _ i _ rest rfl]
      exact hostWrite_of_admitted _ _ _ _ _ admitted
    · have waits := access.trans (hostWrite_waits _ _ _ _ inside notCmd)
      rw [step_cons_cyc, step_done s _ waits]
  case read =>
    have access := move_busRead s _ _ rest arrives (busAligned_four_mul i)
    rw [busIndex_four_mul] at access
    refine ⟨fun admitted => step_congr _ _ ?_, fun inside => ?_⟩
    · rw [access, move_hostRead _ i rest rfl]
      exact hostRead_of_admitted _ _ _ _ admitted
    · have waits := access.trans (hostRead_waits _ _ _ inside)
      rw [step_cons_cyc, step_done s _ waits]
  case badRead =>
    refine step_done s _ ?_
    rw [move, arrives]
    exact if_neg (by rw [busAligned_false a n shape]; decide)
  case badWrite =>
    refine step_done s _ ?_
    rw [move, arrives]
    exact if_neg (by rw [busAligned_false a _ shape]; decide)

/-- Settles O13: RESET's state, the inputs after it kept. -/
theorem resetAbandonsWhatIsInProgress : Obligations.ResetAbandonsWhatIsInProgress :=
  fun s rest arrives => ⟨_, step_reset s rest arrives, rfl, rfl, rfl⟩

/-- Settles O21: the gains are made of parameters and bandwidths, which the operation does not write, so a
second execution writes the same. -/
theorem updateGainsRecomputesAndIsIdempotent : Obligations.UpdateGainsRecomputesAndIsIdempotent :=
  fun s => ⟨_, exec_updateGains s, exec_updateGains _, rfl⟩

/-- Settles O29: CC_STEP is refused, and with it the two stages of the alignment that drive it. -/
theorem smoothingIsRefused : Obligations.SmoothingIsRefused := by
  intro s smooth
  refine ⟨?command, fun stage => ?alignment⟩
  case command => rw [exec_ccStep, ccStep_refused _ _ _ _ _ _ _ _ smooth, outcomeOf_error]
  case alignment =>
    rw [exec_alignStep]
    rcases stage with stage | stage
    · rw [alignStep_energize _ _ _ _ stage, ccStep_refused _ _ _ _ _ _ _ _ smooth]
      rfl
    · rw [alignStep_decay _ _ _ _ stage, ccStep_refused _ _ _ _ _ _ _ _ smooth]
      rfl

end Sys2Proof.Proofs

/-! ## What every step keeps -/

namespace Sys2Proof.Proofs

open Sys2Proof.Machine

/-! ### The invariant through the registers it reads -/

/-- R21: a code of two bits is read zero-extended, so what is read tells the code. -/
theorem setWidth_two_inj (x y : BitVec 2) (h : x.setWidth 32 = y.setWidth 32) : x = y := by
  revert x y
  decide

theorem boolWord_inj (x y : Bool) (h : boolWord x = boolWord y) : x = y := by
  revert x y
  decide

theorem fault_code_of_keepsOutside {w : List Reg} {c t : Context F32} (keeps : KeepsOutside w c t)
    (out : .Fault_code ∉ w) : t.flt.Fault_code = c.flt.Fault_code :=
  setWidth_two_inj _ _ (keeps .Fault_code out)

/-- The registers of which the invariant speaks. -/
def soundRegs : List Reg := [.MODE, .Fault_code, .CAL_CNT, .CAL_DONE, .Align_stage]

section Sound

variable {N : Type} {P : Params N} {c t : Context N}

/-- What is enough of the invariant's parts to carry it on. -/
theorem regsSound_of_eq (sound : RegsSound c)
    (mode : flag t.ctl.MODE .FAULT = flag c.ctl.MODE .FAULT) (flt : t.flt.Fault_code = c.flt.Fault_code)
    (cnt : t.cal.CAL_CNT = c.cal.CAL_CNT) (done : t.cal.CAL_DONE = c.cal.CAL_DONE)
    (stage : t.al.Align_stage = c.al.Align_stage ∨ t.al.Align_stage ≠ 3) : RegsSound t := by
  obtain ⟨mirrored, legal, counted, staged⟩ := sound
  refine ⟨?_, ?_, ?_, stage.elim (fun same => by rwa [AlignStageLegal, same]) id⟩
  · rw [FaultMirrored, mode, flt]
    exact mirrored
  · rw [FaultCodeLegal, flt]
    exact legal
  · rw [CalibrationCounted, cnt, done]
    exact counted

theorem regsSound_of_keepsOutside {c t : Context F32} {w : List Reg} (sound : RegsSound c)
    (keeps : KeepsOutside w c t) (out : ∀ r ∈ soundRegs, r ∉ w) : RegsSound t :=
  regsSound_of_eq sound (congrArg (flag · .FAULT) (keeps .MODE (out _ (by decide))))
    (fault_code_of_keepsOutside keeps (out _ (by decide))) (keeps .CAL_CNT (out _ (by decide)))
    (boolWord_inj _ _ (keeps .CAL_DONE (out _ (by decide))))
    (.inl (setWidth_two_inj _ _ (keeps .Align_stage (out _ (by decide)))))

/-! ### The writes that touch those registers -/

/-- R243: fault entry sets the mirror and a legal code other than 0. -/
theorem faultEntry_sound (k : FaultKind) (sound : RegsSound c) : RegsSound (faultEntry P k c) := by
  obtain ⟨-, -, counted, staged⟩ := sound
  refine ⟨?_, faultCodeUpdate_ne_three k _, counted, staged⟩
  have latched := bne_iff_ne.2 (faultCodeUpdate_ne_zero k c.flt.Fault_code)
  exact (flag_setFlag_fault _).trans latched.symm

theorem swFaultCheck_sound (sound : RegsSound c) : RegsSound (swFaultCheck P c) := by
  unfold swFaultCheck
  split
  · exact faultEntry_sound .software sound
  · exact sound

/-- R245: leaving the fault clears the mirror and the code. -/
theorem faultLeave_sound (sound : RegsSound c) : RegsSound (faultLeave c) := by
  obtain ⟨-, -, counted, staged⟩ := sound
  refine ⟨?_, by simp [FaultCodeLegal, faultLeave], counted, staged⟩
  simp [FaultMirrored, faultLeave, flag_clearFlag_fault]

/-- R263: the count goes up by one until it is 10,000, and then CAL_DONE says so. -/
theorem calibrate_sound (l : Locals) (open_ : c.cal.CAL_DONE = false) (sound : RegsSound c) :
    RegsSound { c with cal := calibrate P l c.cal } := by
  obtain ⟨mirrored, legal, counted, staged⟩ := sound
  obtain ⟨cnt, done, -⟩ := calibrate_spec P l c.cal open_
  have below : c.cal.CAL_CNT < 10000#32 := by simpa [CalibrationCounted, open_] using counted
  refine ⟨mirrored, legal, ?_, staged⟩
  rw [CalibrationCounted, cnt, done]
  by_cases last : c.cal.CAL_CNT + 1 = 10000#32
  · exact .inl ⟨beq_iff_eq.2 last, last⟩
  · exact .inr ⟨beq_eq_false_iff_ne.2 last, by bv_omega⟩

theorem alignDone_sound (sound : RegsSound c) : RegsSound (alignDone c) :=
  regsSound_of_eq sound (flag_clearFlag_align _) rfl rfl rfl (.inr (by simp [alignDone]))

theorem alignTail_sound (st : BitVec 2) (sound : RegsSound c) : RegsSound (alignTail P st c) := by
  refine regsSound_of_eq sound (alignTail_fault P st c) (by simp) (by simp) (by simp) ?_
  rcases alignTail_stage P st c with same | zero | two
  · exact .inl same
  · exact .inr (by simp [zero])
  · exact .inr (by simp [two])

theorem alignActions_sound (fr : ClampSite → N) (comp : Bool) (st : BitVec 2) (sound : RegsSound c)
    (h : alignActions P fr comp st c = .ok t) : RegsSound t := by
  rcases alignActions_cases P fr comp st c t h with ⟨-, rfl⟩ | ⟨-, rfl⟩ | ⟨-, -, frame, -, -⟩
  · exact regsSound_of_eq sound rfl rfl rfl rfl (.inr (by simp [alignInit]))
  · exact alignDone_sound sound
  · rw [frame]
    exact sound

theorem enableWith_sound (f : BitVec 2) (sound : RegsSound c) : RegsSound (enableWith f c) :=
  regsSound_of_eq sound (by simp) (by simp) (by simp) (by simp) (.inl (by simp))

theorem alignStep_sound (fr : ClampSite → N) (comp : Bool) (sound : RegsSound c)
    (h : alignStep P fr comp c = .ok t) : RegsSound t := by
  obtain ⟨u, actions, rfl⟩ := exists_ok_of_map_ok h
  have acted := alignActions_sound fr comp _ sound actions
  refine alignTail_sound _ ?_
  split
  · exact enableWith_sound _ acted
  · exact acted

theorem finishS7_sound (l : Locals) (sound : RegsSound c) : RegsSound (finishS7 P l c) := by
  have enabled : RegsSound (if l.enReq then enableWith l.f2 c else c) := by
    split
    · exact enableWith_sound _ sound
    · exact sound
  unfold finishS7
  dsimp only
  split
  · exact alignTail_sound _ enabled
  · exact regsSound_of_eq enabled rfl rfl rfl rfl (.inr (by simp))

end Sound

/-! ### The parts of a cycle, and the commands -/

section Parts

variable {P : Params F32} {fr : ClampSite → F32} {c t : Context F32}

theorem behave_sound (b : Behaviour) (m : Word) (r : Context F32 × Bool) (sound : RegsSound c)
    (h : behave P fr b m c = .ok r) : RegsSound r.1 := by
  cases b with
  | RUN =>
    obtain ⟨u, run, rfl⟩ := exists_ok_of_map_ok h
    exact regsSound_of_keepsOutside sound (behaveRun_keepsOutside P fr c m u run) (by decide)
  | HALL_TEST =>
    obtain rfl := Except.ok.inj h
    exact regsSound_of_keepsOutside sound (behaveHallTest_keepsOutside P c) (by decide)
  | DUTY_TEST =>
    obtain rfl := Except.ok.inj h
    exact regsSound_of_keepsOutside sound (setDuties_keepsOutside c _) (by decide)
  | OL_CURRENT =>
    obtain ⟨u, drive, rfl⟩ := exists_ok_of_map_ok h
    exact regsSound_of_keepsOutside sound (ccDrive_keepsOutside P fr c _ _ _ _ _ u drive) (by decide)
  | VREF_GEN => cases h
  | OL_VOLTAGE =>
    obtain rfl := Except.ok.inj h
    exact regsSound_of_keepsOutside sound (behaveOlVoltage_keepsOutside P fr c m) (by decide)
  | PARAM_EST => cases h
  | ALIGN =>
    obtain ⟨u, actions, rfl⟩ := exists_ok_of_map_ok h
    exact alignActions_sound fr _ _ sound actions
  | IDLE =>
    obtain rfl := Except.ok.inj h
    exact regsSound_of_eq sound (flag_clearRunModes _) rfl rfl rfl (.inl rfl)

theorem phaseStep_sound (ph : Phase) (l l' : Locals) (sound : RegsSound c)
    (h : phaseStep P fr ph l c = .ok (l', t)) : RegsSound t := by
  cases ph with
  | S1 => cases h; exact sound
  | S3a =>
    rw [phaseStep] at h
    split at h
    · cases h; exact sound
    · next pending => cases h; exact calibrate_sound l (Bool.eq_false_iff.2 pending) sound
  | S3b =>
    cases h
    exact regsSound_of_keepsOutside sound (ite_keepsOutside c _ _ _ (setIb_keepsOutside c _)) (by decide)
  | S3c =>
    cases h
    exact regsSound_of_keepsOutside sound (ite_keepsOutside c _ _ _ (setIc_keepsOutside c _)) (by decide)
  | S3d =>
    cases h
    exact regsSound_of_keepsOutside sound (ite_keepsOutside c _ _ _ (convVoltage_keepsOutside P c l)) (by decide)
  | S4 => cases h; exact swFaultCheck_sound sound
  | S5 => cases h; exact sound
  | S6 => cases h; exact sound
  | S7sel =>
    cases h
    exact regsSound_of_keepsOutside sound
      ((sensorless_keepsOutside P c _).append (selectSource_keepsOutside P _ _ _)) (by decide)
  | S7run =>
    obtain ⟨r, done, hr⟩ := exists_ok_of_map_ok h
    cases hr
    exact behave_sound _ _ r sound done
  | S7fin => cases h; exact finishS7_sound l sound
  | S2 | S7snap | S7latch | S8 => cases h; exact sound

theorem cycle_sound (sound : RegsSound c) (h : cycle P fr c = .ok t) : RegsSound t :=
  runPhases_induction P fr (fun c t => RegsSound c → RegsSound t) (fun _ => id)
    (fun _ _ _ first second => second ∘ first)
    (fun ph l l' _ _ part sound => phaseStep_sound ph l l' sound part) cyclePhases _ c t h sound

end Parts

/-- Of the 29 operations five write a register of the invariant. -/
theorem exec_sound (i : Instr) (s t : State) (sound : RegsSound s.ctx) (h : exec i s = .next t) :
    RegsSound t.ctx := by
  have frame := (execWritesOnlyItsRegisters i s t h).2
  cases i with
  | alignStep => exact alignStep_sound _ _ sound (outcomeOf_next s t _ h).1
  | swFaultCheck => cases h; exact swFaultCheck_sound sound
  | hwFault => cases h; exact faultEntry_sound .hardware sound
  | faultClear => cases h; exact faultLeave_sound sound
  | cycle => exact cycle_sound sound (outcomeOf_next s t _ h).1
  | _ => exact regsSound_of_keepsOutside sound frame (by decide)

/-! ### The accesses of HOST and SMP -/

theorem hostStore_sound (c : Context F32) (v : Word) (r : Reg) (sound : RegsSound c) :
    RegsSound (c.hostStore v r) := by
  by_cases readOnly : r.hostClass = .RO
  · rw [Context.hostStore_readOnly c v r readOnly]
    exact sound
  by_cases mode : r = .MODE
  · subst mode
    exact regsSound_of_eq sound (flag_modeHostWrite _ _) rfl rfl rfl (.inl rfl)
  have others : ∀ q ∈ soundRegs, q.hostClass = .RO ∨ q = .MODE := by decide
  refine regsSound_of_keepsOutside sound (hostStore_keepsOutside c v r) (fun q hq same => ?_)
  obtain rfl := List.mem_singleton.1 same
  exact (others q hq).elim readOnly mode

theorem regStore_sound (c : Context F32) (i : RegIndex) (v : Word) (sound : RegsSound c) :
    RegsSound (regStore c i v) := by
  unfold regStore
  split
  · exact hostStore_sound c v _ sound
  · exact sound

theorem smpAdc_sound (c : Context F32) (k : BitVec 2) (code : BitVec 12) (sound : RegsSound c) :
    RegsSound (smpAdc c k code) := by
  unfold smpAdc
  repeat' split
  all_goals exact sound

/-! ### A latched hardware code (R242, R247) -/

theorem swFaultCheck_hardware {N : Type} (P : Params N) (c : Context N) (h : c.flt.Fault_code = 1) :
    (swFaultCheck P c).flt.Fault_code = 1 := by
  unfold swFaultCheck
  split
  · exact (congrArg (faultCodeUpdate .software) h).trans (faultCodeUpdate_latched _)
  · exact h

/-- Of the parts of a cycle S4 alone writes the fault registers. -/
theorem phaseStep_flt {N : Type} (P : Params N) (fr : ClampSite → N) (ph : Phase) (l l' : Locals)
    (c t : Context N) (h : phaseStep P fr ph l c = .ok (l', t)) :
    t.flt = c.flt ∨ t = swFaultCheck P c := by
  cases ph with
  | S3a =>
    rw [phaseStep] at h
    split at h
    · cases h; exact .inl rfl
    · cases h; exact .inl rfl
  | S3b | S3c | S3d =>
    cases h
    left
    split
    · rfl
    · rfl
  | S4 => cases h; exact .inr rfl
  | S7sel => cases h; exact .inl (by simp)
  | S7run =>
    obtain ⟨r, done, hr⟩ := exists_ok_of_map_ok h
    cases hr
    obtain ⟨-, -, -, -, -, -, -, -, -, -, -, -, flt, -⟩ := behave_frame P fr _ _ c r done
    exact .inl flt
  | S7fin =>
    cases h
    left
    unfold finishS7
    dsimp only
    split <;> split <;> simp
  | S1 | S2 | S5 | S6 | S7snap | S7latch | S8 => cases h; exact .inl rfl

theorem phaseStep_hardware {N : Type} (P : Params N) (fr : ClampSite → N) (ph : Phase) (l l' : Locals)
    (c t : Context N) (h : phaseStep P fr ph l c = .ok (l', t)) (latched : c.flt.Fault_code = 1) :
    t.flt.Fault_code = 1 := by
  rcases phaseStep_flt P fr ph l l' c t h with same | rfl
  · rw [same, latched]
  · exact swFaultCheck_hardware P c latched

/-- R242: of the 29 operations FAULT_CLEAR alone takes the hardware code away. -/
theorem exec_hardware (i : Instr) (s t : State) (other : i ≠ .faultClear)
    (latched : s.ctx.flt.Fault_code = 1) (h : exec i s = .next t) : t.ctx.flt.Fault_code = 1 := by
  have frame := (execWritesOnlyItsRegisters i s t h).2
  cases i with
  | swFaultCheck => cases h; exact swFaultCheck_hardware hw _ latched
  | hwFault => cases h; rfl
  | faultClear => exact absurd rfl other
  | cycle =>
    exact runPhases_induction hw _ (fun c t => c.flt.Fault_code = 1 → t.flt.Fault_code = 1)
      (fun _ => id) (fun _ _ _ first second => second ∘ first)
      (fun ph l l' c t => phaseStep_hardware hw _ ph l l' c t) cyclePhases _ _ _
      (outcomeOf_next s t _ h).1 latched
  | _ => exact (fault_code_of_keepsOutside frame (by decide)).trans latched

theorem cycStep_hardware (s t : State) (latched : s.ctx.flt.Fault_code = 1)
    (h : cycStep s = .next t) : t.ctx.flt.Fault_code = 1 := by
  unfold cycStep at h
  split at h
  · cases h; exact latched
  · next p _ =>
    split at h
    · cases h
    · next l c part =>
      have kept := phaseStep_hardware hw _ _ _ l _ c part latched
      split at h
      · cases h; exact kept
      · cases h; exact kept

theorem regStore_flt (c : Context F32) (i : RegIndex) (v : Word) : (regStore c i v).flt = c.flt := by
  unfold regStore
  split
  · simp [Context.hostStore_groups]
  · rfl

theorem hostWrite_hardware (held s t : State) (i : RegIndex) (v : Word)
    (hheld : held.ctx.flt.Fault_code = 1) (hs : s.ctx.flt.Fault_code = 1)
    (h : hostWrite held s i v = .done (.next t)) : t.ctx.flt.Fault_code = 1 := by
  unfold hostWrite at h
  split at h
  · unfold writeCmd at h
    split at h
    · cases h
    · split at h
      · cases h
      · cases h; exact hs
  · split at h
    · cases h; rw [regStore_flt, hs]
    · exact cycStep_hardware held t hheld (Move.done.inj h)

theorem hostRead_hardware (held s t : State) (i : RegIndex) (hheld : held.ctx.flt.Fault_code = 1)
    (hs : s.ctx.flt.Fault_code = 1) (h : hostRead held s i = .done (.next t)) :
    t.ctx.flt.Fault_code = 1 := by
  unfold hostRead at h
  split at h
  · cases h; exact hs
  · exact cycStep_hardware held t hheld (Move.done.inj h)

/-- A move that is no command: RESET alone can take the hardware code away. -/
theorem moveOf_hardware (held s t : State) (x : Input) (hheld : held.ctx.flt.Fault_code = 1)
    (hs : s.ctx.flt.Fault_code = 1) (h : moveOf held s x = .done (.next t)) :
    t.ctx.flt.Fault_code = 1 ∨ x = .reset := by
  cases x with
  | reset => exact .inr rfl
  | cyc => exact .inl (cycStep_hardware s t hs (Move.done.inj h))
  | settle =>
    have h := Move.done.inj h
    split at h
    · exact .inl (cycStep_hardware held t hheld h)
    · cases h; exact .inl hs
  | tick =>
    have h := Move.done.inj h
    unfold tick at h
    split at h
    · cases h; exact .inl hs
    · cases h
  | hwfault => cases h; exact .inl rfl
  | hostWrite i v => exact .inl (hostWrite_hardware held s t i v hheld hs h)
  | hostRead i => exact .inl (hostRead_hardware held s t i hheld hs h)
  | busWrite a bs =>
    rw [moveOf] at h
    split at h
    · exact .inl (hostWrite_hardware held s t _ _ hheld hs h)
    · cases h
  | busRead a n =>
    rw [moveOf] at h
    split at h
    · exact .inl (hostRead_hardware held s t _ hheld hs h)
    · cases h
  | smpAdc k code =>
    cases h
    left
    unfold smpAdc
    repeat' split
    all_goals exact hs
  | smpHall code => cases h; exact .inl hs

/-- A command that completes ends in its register file. -/
theorem afterCommand_next (o : Host.Outcome State Fault Refusal) (t : State)
    (h : afterCommand o = .next t) : ∃ u, o = .next u ∧ t.ctx = u.ctx := by
  cases o with
  | next u => cases h; exact ⟨u, rfl, rfl⟩
  | fault r => cases h
  | refused r => cases h

/-! ### The obligations -/

/-- No fault, no calibration, stage 0. -/
theorem reset_sound : RegsSound State.reset.ctx := by
  unfold RegsSound FaultMirrored FaultCodeLegal CalibrationCounted AlignStageLegal
  decide

/-- Settles O57: every register of the invariant reads 0. -/
theorem resetStateIsSound : Obligations.ResetStateIsSound := reset_sound

/-- Settles O56: whatever the step did to the register file, the invariant held before and holds after. -/
theorem stepKeepsSoundState : Obligations.StepKeepsSoundState := by
  intro s t sound h
  have sound : RegsSound s.ctx := sound
  have moved := step_ctx s t h
  change RegsSound t.ctx
  generalize t.ctx = c at moved ⊢
  cases moved with
  | same => exact sound
  | part p l _ _ done => exact phaseStep_sound _ _ l sound done
  | hwfault => exact faultEntry_sound .hardware sound
  | reset => exact reset_sound
  | store i v _ => exact regStore_sound s.ctx i v sound
  | illegal w => exact sound
  | adc k code => exact smpAdc_sound s.ctx k code sound
  | hall code => exact sound
  | command i s' u issued done =>
    obtain ⟨-, w, ctx, -⟩ := move_command s s' i issued
    refine exec_sound i s' u ?_ done
    rw [ctx]
    exact sound

/-- Settles O41: a step is a move of an agent, of which RESET alone takes the code away, or a command, of
which FAULT_CLEAR alone does. -/
theorem hardwareCodeIsNeverOverwritten : Obligations.HardwareCodeIsNeverOverwritten := by
  intro s t latched h
  cases issued : move s with
  | command i s' =>
    rw [step_command s s' i issued] at h
    obtain ⟨u, done, ctx⟩ := afterCommand_next _ t h
    obtain ⟨-, w, before, -⟩ := move_command s s' i issued
    by_cases clear : i = .faultClear
    · exact .inr (.inr ⟨s', by rw [clear]⟩)
    · left
      rw [ctx]
      exact exec_hardware i s' u clear (by rw [before]; exact latched) done
  | done o =>
    rw [step_done s o issued] at h
    subst h
    unfold move at issued
    split at issued
    · exact .inl (cycStep_hardware s t latched (Move.done.inj issued))
    · next x rest inputs =>
      rcases moveOf_hardware s _ t x latched (by exact latched) issued with kept | rfl
      · exact .inl kept
      · exact .inr (.inl ⟨rest, inputs⟩)

end Sys2Proof.Proofs

/-! ## The transforms in the reals -/

namespace Sys2Proof.Proofs

open Sys2Proof.Machine

section Reals

variable (o : Reference.Open)

/-- R122, R123: PARK's rotation taken back. -/
theorem ipark_park_params (al be s c : ℝ) (unit : s ^ 2 + c ^ 2 = 1) :
    ipark (Reference.params o) (park (Reference.params o) al be s c).1
      (park (Reference.params o) al be s c).2 s c = (al, be) := by
  simp only [ipark, park, Reference.params_add, Reference.params_sub, Reference.params_mul,
    Prod.mk.injEq]
  exact ⟨by linear_combination al * unit, by linear_combination be * unit⟩

/-- R124 in the reals. -/
theorem iclarke_params (al be : ℝ) :
    iclarke (Reference.params o) al be =
      (al, -(1 / 2) * al + 1 / 2 * √3 * be, -(1 / 2) * al - 1 / 2 * √3 * be) := by
  simp [iclarke, neg_div]

/-- R121 of three numbers of sum zero that R124 makes. -/
theorem clarke_iclarke_params (al be : ℝ) :
    clarke (Reference.params o) al (-(1 / 2) * al + 1 / 2 * √3 * be)
      (-(1 / 2) * al - 1 / 2 * √3 * be) = (al, be) := by
  have root : √(3 : ℝ) ≠ 0 := by positivity
  simp only [clarke, Reference.params_ofDecimal, Reference.params_sub, Reference.params_mul,
    Reference.params_div, Reference.params_invSqrt3, Prod.mk.injEq]
  refine ⟨by push_cast; ring, ?_⟩
  field_simp
  ring

/-- A voltage common to the three phases shifts the largest and the smallest with them. -/
theorem max3_add_params (a b c x : ℝ) :
    max3 (Reference.params o) (a + x) (b + x) (c + x) = max3 (Reference.params o) a b c + x := by
  simp only [max3, Reference.params_max, max_add_add_right]

theorem min3_add_params (a b c x : ℝ) :
    min3 (Reference.params o) (a + x) (b + x) (c + x) = min3 (Reference.params o) a b c + x := by
  simp only [min3, Reference.params_min, min_add_add_right]

/-- R125: the offset is the middle between the largest and the smallest voltage, taken negative. -/
theorem svmOffset_params (a b c : ℝ) :
    svmOffset (Reference.params o) a b c =
      -(max3 (Reference.params o) a b c + min3 (Reference.params o) a b c) / 2 := by
  simp only [svmOffset, Reference.params_ofDecimal, Reference.params_mul, Reference.params_add]
  push_cast
  ring

end Reals

/-- Settles O27: each inverse is the algebra of its two rules, and the offset's centring that of the middle
it takes off. -/
theorem transformInversesInTheReals : Obligations.TransformInversesInTheReals := by
  intro o
  dsimp only
  refine ⟨ipark_park_params o, fun al be => ?sum, fun al be => ?inverse, fun a b c => ?centred⟩
  case sum => rw [iclarke_params]; ring
  case inverse => rw [iclarke_params]; exact clarke_iclarke_params o al be
  case centred => rw [max3_add_params, min3_add_params, svmOffset_params]; ring

end Sys2Proof.Proofs

/-! ## The behaviours, the enable request and the cycle of a TICK -/

namespace Sys2Proof.Proofs

open Sys2Proof.Machine

/-! ### CYC's turn -/

theorem core_run_one_eq (s : State) : core.run 1 s = step s := by
  cases h : step s with
  | next t => exact core_run_one s t h
  | fault r => cases r
  | refused r => exact core_run_refused 0 s r h

/-- CYC moves next: `cyc` is the next input, or none is left (log entry 1); `ys` are the inputs after it. -/
def CycNext (xs ys : List Input) : Prop := xs = .cyc :: ys ∨ xs = [] ∧ ys = []

theorem step_cycNext (s : State) (ys : List Input) (h : CycNext s.inputs ys) :
    step s = cycStep { s with inputs := ys } := by
  rcases h with h | ⟨h, rfl⟩
  · exact step_cyc s ys h
  · rw [step_nil s h, ← h]

/-- A part of the cycle in progress that completes, other than the last. -/
theorem step_cycNext_part (s : State) (ph ph' : Phase) (l l' : Locals) (t : Context F32)
    (ys : List Input) (turn : CycNext s.inputs ys) (cyc : s.cyc = some ⟨ph, l⟩)
    (follows : nextPhase ph = some ph')
    (done : phaseStep hw (hw.freeClamp s.draws) ph l s.ctx = .ok (l', t)) :
    step s = .next { s with inputs := ys, ctx := t, cyc := some ⟨ph', l'⟩ } := by
  rw [step_cycNext s ys turn]
  exact cycStep_part { s with inputs := ys } ph ph' l l' t cyc follows done

/-- R286, R230, R284: from point P1 to the end of S7 with nothing between. -/
theorem run_latch_fin (s : State) (l : Locals) (ys zs : List Input) (first : CycNext s.inputs ys)
    (second : CycNext ys zs) (cyc : s.cyc = some ⟨.S7latch, l⟩) :
    core.run 2 s = .next { s with
      inputs := zs
      ctx := finishS7 hw { l with f2 := s.ctx.flt.Fault_code } s.ctx
      cyc := some ⟨.S8, { l with f2 := s.ctx.flt.Fault_code }⟩ } :=
  core_run_step 1 s _ _ (step_cycNext_part s .S7latch .S7fin l _ s.ctx ys first cyc rfl rfl)
    (core_run_one _ _ (step_cycNext_part _ .S7fin .S8 _ _ _ zs second rfl rfl rfl))

/-- The end of S7 writes PWM_EN alone of the outputs (R286). -/
theorem finishS7_out {N : Type} (P : Params N) (l : Locals) (c : Context N) :
    (finishS7 P l c).out =
      { c.out with PWM_EN := if l.enReq = true ∧ l.f2 = 0#2 then true else c.out.PWM_EN } := by
  by_cases sel : behaviour l.m l.f = .ALIGN
  · rw [finishS7_of_align P l c sel]
    simp
  · rw [finishS7_of_ne_align P l c sel]

theorem finishS7_flt {N : Type} (P : Params N) (l : Locals) (c : Context N) :
    (finishS7 P l c).flt = c.flt := by
  by_cases sel : behaviour l.m l.f = .ALIGN
  · rw [finishS7_of_align P l c sel]
    simp
  · rw [finishS7_of_ne_align P l c sel]

/-! ### The behaviours up to point P1 -/

/-- Settles O50: HALL_TEST asks the selector, DUTY_TEST clamps, and of its three clamps R11 says all that is
said. -/
theorem testBehavioursSetDuties : Obligations.TestBehavioursSetDuties := by
  intro s l cyc quiet
  dsimp only
  refine ⟨fun sel not0 not7 => ?vector, fun sel none => ?noVector, fun sel => ?duties⟩
  case vector =>
    have selected : hallVectorSelected s.ctx.sp.Hall_test_sel = true := by
      simpa [hallVectorSelected] using ⟨not0, not7⟩
    refine step_S7run s l _ true cyc quiet ?_
    rw [sel, behave, behaveHallTest, if_pos selected, selected]
    rfl
  case noVector =>
    have unselected : hallVectorSelected s.ctx.sp.Hall_test_sel = false := by
      simpa [hallVectorSelected, or_iff_not_imp_left] using none
    refine step_S7run s l _ false cyc quiet ?_
    rw [sel, behave, behaveHallTest, if_neg (by simp [unselected]), unselected]
    rfl
  case duties =>
    refine ⟨_, _, _, clamp_clampsTo hw (hw.freeClamp s.draws .dutyA) _ _ _,
      clamp_clampsTo hw (hw.freeClamp s.draws .dutyB) _ _ _,
      clamp_clampsTo hw (hw.freeClamp s.draws .dutyC) _ _ _, step_S7run s l _ true cyc quiet ?_⟩
    rw [sel, behave]
    rfl

section Align

variable {N : Type} (P : Params N) (fr : ClampSite → N) (m : Word) (c : Context N)

/-- R280: the behaviour ALIGN is the actions of the stage. -/
theorem behave_align (st : BitVec 2) (hst : c.al.Align_stage = st) (t : Context N)
    (actions : alignActions P fr (flag m .COMP) st c = .ok t) :
    behave P fr .ALIGN m c = .ok (t, alignDrives st) := by
  subst hst
  rw [behave, actions]
  rfl

/-- R227, R228: in both stages the actions are one call of CC_STEP. -/
theorem alignActions_drives (comp : Bool) (st : BitVec 2) (drives : st = 1 ∨ st = 2) :
    alignActions P fr comp st c =
      ccDrive P fr comp (if st = 1 then c.cc.Idsr_ref else P.ofDecimal 0 1) (P.ofDecimal 0 1)
        (P.ofDecimal 0 1) (P.ofDecimal 0 1) c := by
  rcases drives with rfl | rfl
  · rfl
  · exact ccDrive_withRef P fr comp _ _ _ _ c _

end Align

/-- R225: what ends ALIGN_STEP after its actions is what ends S7 after the behaviour. -/
theorem run_latch_fin_align (s : State) (l : Locals) (cyc : s.cyc = some ⟨.S7latch, l⟩)
    (quiet : s.inputs = []) (sel : behaviour l.m l.f = .ALIGN) :
    core.run 2 s = .next { s with
      ctx := alignTail hw l.st (if l.enReq then enableRequest s.ctx else s.ctx)
      cyc := some ⟨.S8, { l with f2 := s.ctx.flt.Fault_code }⟩ } := by
  rw [run_latch_fin s l [] [] (.inr ⟨quiet, rfl⟩) (.inr ⟨rfl, rfl⟩) cyc, finishS7, ← quiet, if_pos sel]
  rfl

/-- R280: the three parts that end S7 in a cycle of ALIGN are ALIGN_STEP. -/
theorem run_align (s : State) (l : Locals) (cyc : s.cyc = some ⟨.S7run, l⟩) (quiet : s.inputs = [])
    (sel : behaviour l.m l.f = .ALIGN) (comp : flag l.m .COMP = flag s.ctx.ctl.MODE .COMP) :
    (∀ t, exec .alignStep s = .next t →
      ∃ k : Locals, k.m = l.m ∧ core.run 3 s = .next { t with cyc := some ⟨.S8, k⟩ }) ∧
    (∀ r, exec .alignStep s = .refused r → core.run 3 s = .refused r) := by
  rw [exec_alignStep, alignStep, ← comp]
  cases actions : alignActions hw (hw.freeClamp s.draws) (flag l.m .COMP) s.ctx.al.Align_stage s.ctx with
  | error e =>
    simp only [Except.map, outcomeOf_error]
    refine ⟨fun t done => (by cases done), fun r refused => ?_⟩
    cases refused
    refine core_run_refused 2 s e (step_S7run_refused s l e cyc quiet ?_)
    rw [sel, behave, actions]
    rfl
  | ok u =>
    simp only [Except.map, outcomeOf_ok]
    refine ⟨fun t done => ?_, fun r refused => by cases refused⟩
    cases done
    have acted := behave_align hw _ l.m s.ctx _ rfl u actions
    rw [← sel] at acted
    have tail := run_latch_fin_align { s with
      ctx := u
      cyc := some ⟨.S7latch,
        { l with enReq := alignDrives s.ctx.al.Align_stage, st := s.ctx.al.Align_stage }⟩ } _ rfl quiet
      sel
    refine ⟨_, ?_, core_run_step 2 s _ _ (step_S7run s l u _ cyc quiet acted) tail⟩
    rfl

/-- Settles O51, behaviour by behaviour; ALIGN stage by stage, and then with the parts that end S7. -/
theorem openLoopBehaviours : Obligations.OpenLoopBehaviours := by
  intro s l cyc quiet
  dsimp only
  refine ⟨fun sel lpf => ?current, fun sel => ?voltage, fun sel =>
    ⟨fun st => ?init, fun st => ?done, fun st lpf => ?drives, run_align s l cyc quiet sel⟩⟩
  case current =>
    have drive := ccDrive_ok hw (hw.freeClamp s.draws) (flag l.m .COMP) s.ctx.sp.Id_ol_ref
      s.ctx.sp.Iq_ol_ref s.ctx.sl.Thetar_sel s.ctx.sl.Wr_sel s.ctx lpf
    refine ⟨_, drive, step_S7run s l _ true cyc quiet ?_⟩
    rw [sel, behave, drive]
    rfl
  case voltage =>
    refine step_S7run s l _ true cyc quiet ?_
    rw [sel, behave]
    rfl
  case init =>
    have acted := step_S7run s l (alignInit hw s.ctx) false cyc quiet
      (by rw [sel]; exact behave_align hw _ l.m s.ctx 0 st _ rfl)
    rw [acted, st]
    rfl
  case done =>
    have acted := step_S7run s l (alignDone s.ctx) false cyc quiet
      (by rw [sel]; exact behave_align hw _ l.m s.ctx 3 st _ rfl)
    rw [acted, st]
    rfl
  case drives =>
    have drive := ccDrive_ok hw (hw.freeClamp s.draws) (flag l.m .COMP)
      (if s.ctx.al.Align_stage = 1 then s.ctx.cc.Idsr_ref else hw.ofDecimal 0 1) (hw.ofDecimal 0 1)
      (hw.ofDecimal 0 1) (hw.ofDecimal 0 1) s.ctx lpf
    have asks : alignDrives s.ctx.al.Align_stage = true := by
      rcases st with st | st <;> rw [st] <;> rfl
    refine ⟨_, drive, step_S7run s l _ true cyc quiet ?_⟩
    rw [sel, behave_align hw _ l.m s.ctx _ rfl _ ((alignActions_drives hw _ _ _ _ st).trans drive),
      asks]

/-! ### A HWFAULT inside S7 (R285, R286) -/

/-- R286 after a fault: the latch is read as set, and the output stays as it was. -/
theorem run_latch_fin_latched (s : State) (l : Locals) (rest : List Input)
    (cyc : s.cyc = some ⟨.S7latch, l⟩) (turns : s.inputs = .cyc :: .cyc :: rest)
    (latched : s.ctx.flt.Fault_code = 1) :
    ∃ t, core.run 2 s = .next t ∧ t.ctx.flt.Fault_code = 1 ∧ t.ctx.out = s.ctx.out := by
  refine ⟨_, run_latch_fin s l _ rest (.inl turns) (.inl rfl) cyc, ?_, ?_⟩
  · rw [finishS7_flt, latched]
  · rw [finishS7_out, if_neg (by simp [latched])]

/-- A behaviour that ends in an enable request, run on the register file that a fault entry left, writes the
duties it writes without it, and the output stays disabled (R285, points Q1 and Q2). -/
theorem run_behaviour_latched (s : State) (l : Locals) (rest : List Input) (c e t : Context F32)
    (cyc : s.cyc = some ⟨.S7run, l⟩) (turns : s.inputs = .cyc :: .cyc :: .cyc :: rest)
    (entered : s.ctx = { c with ctl := e.ctl, flt := e.flt, out := e.out })
    (latched : e.flt.Fault_code = 1) (off : e.out.PWM_EN = false)
    (done : behave hw (hw.freeClamp s.draws) (behaviour l.m l.f) l.m c = .ok (t, true)) :
    ∃ v, core.run 3 s = .next v ∧ v.ctx.flt.Fault_code = 1 ∧
      v.ctx.out = { t.out with PWM_EN := false } := by
  have acted := behave_outside hw _ _ l.m c t e.ctl e.flt e.out done
  rw [← entered, off] at acted
  have part : phaseStep hw (hw.freeClamp s.draws) .S7run l s.ctx =
      .ok ({ l with enReq := true, st := s.ctx.al.Align_stage },
        { t with ctl := e.ctl, flt := e.flt, out := { t.out with PWM_EN := false } }) := by
    rw [phaseStep, acted]
    rfl
  have first := step_cycNext_part s .S7run .S7latch l _ _ _ (.inl turns) cyc rfl part
  obtain ⟨v, tail, code, out⟩ := run_latch_fin_latched { s with
    inputs := .cyc :: .cyc :: rest
    ctx := { t with ctl := e.ctl, flt := e.flt, out := { t.out with PWM_EN := false } }
    cyc := some ⟨.S7latch, { l with enReq := true, st := s.ctx.al.Align_stage }⟩ } _ rest rfl rfl latched
  exact ⟨v, core_run_step 2 s _ _ first tail, code, out⟩

/-- The part S7run, taken with no input pending, if it completes. -/
theorem step_S7run_inv (s u : State) (l : Locals) (p : InFlight) (cyc : s.cyc = some ⟨.S7run, l⟩)
    (quiet : s.inputs = []) (h : step s = .next u) (hp : u.cyc = some p) (asks : p.loc.enReq = true) :
    behave hw (hw.freeClamp s.draws) (behaviour l.m l.f) l.m s.ctx = .ok (u.ctx, true) := by
  cases done : behave hw (hw.freeClamp s.draws) (behaviour l.m l.f) l.m s.ctx with
  | error r =>
    rw [step_S7run_refused s l r cyc quiet done] at h
    cases h
  | ok r =>
    rw [step_S7run s l r.1 r.2 cyc quiet done] at h
    obtain rfl := Host.Outcome.next.inj h
    obtain rfl := Option.some.inj hp
    exact congrArg (fun en => Except.ok (r.1, en)) asks

/-- R268, R271: the part S7sel, taken in CYC's turn. -/
theorem step_S7sel (s : State) (l : Locals) (ys : List Input) (turn : CycNext s.inputs ys)
    (cyc : s.cyc = some ⟨.S7sel, l⟩) :
    step s = .next { s with
      inputs := ys
      ctx := selectSource hw (behaviour l.m l.f) l.m (sensorless hw l.m s.ctx)
      cyc := some ⟨.S7run, l⟩ } :=
  step_cycNext_part s .S7sel .S7run l l _ ys turn cyc rfl rfl

/-- Settles O55: without a fault the end of S7 is R286's. A fault at Q1 or Q2 is seen by no behaviour, only
by the latch read; at P1 by the latch read alone; at P2, after the read, by nothing. -/
theorem hwFaultAtPointsPOneAndPTwo : Obligations.HwFaultAtPointsPOneAndPTwo := by
  intro s u l p rest
  refine ⟨fun cyc quiet => ?none, fun cyc inputs ran hp asks => ?q1, fun cyc inputs ran hp asks => ?q2,
    fun cyc asks inputs => ?p1, fun cyc asks clear inputs => ?p2⟩
  case none =>
    exact ⟨_, run_latch_fin s l [] [] (.inr ⟨quiet, rfl⟩) (.inr ⟨rfl, rfl⟩) cyc, finishS7_flt _ _ _,
      finishS7_out _ _ _⟩
  case q1 =>
    have sel := step_S7sel { s with inputs := [] } l [] (.inr ⟨rfl, rfl⟩) cyc
    rw [core_run_next 1 _ _ sel, core_run_one_eq] at ran
    have done := step_S7run_inv { s with
      inputs := [], cyc := some ⟨.S7run, l⟩
      ctx := selectSource hw (behaviour l.m l.f) l.m (sensorless hw l.m s.ctx) } u l p rfl rfl ran hp asks
    have entry := step_hwfault s _ inputs
    have sel' := step_S7sel { s with
      inputs := .cyc :: .cyc :: .cyc :: .cyc :: rest, ctx := faultEntry hw .hardware s.ctx } l _
      (.inl rfl) cyc
    obtain ⟨v, tail, code, out⟩ := run_behaviour_latched { s with
      inputs := .cyc :: .cyc :: .cyc :: rest, cyc := some ⟨.S7run, l⟩
      ctx := selectSource hw (behaviour l.m l.f) l.m
        (sensorless hw l.m (faultEntry hw .hardware s.ctx)) } l rest _ (faultEntry hw .hardware s.ctx)
      u.ctx rfl rfl (selectSource_outside hw _ l.m s.ctx _ _ _) rfl rfl done
    exact ⟨v, core_run_step 4 s _ _ entry (core_run_step 3 _ _ _ sel' tail), code, out⟩
  case q2 =>
    have done := step_S7run_inv { s with inputs := [] } u l p cyc rfl ran hp asks
    have entry := step_hwfault s _ inputs
    obtain ⟨v, tail, code, out⟩ := run_behaviour_latched { s with
      inputs := .cyc :: .cyc :: .cyc :: rest, ctx := faultEntry hw .hardware s.ctx } l rest s.ctx
      (faultEntry hw .hardware s.ctx) u.ctx cyc rfl rfl rfl rfl done
    exact ⟨v, core_run_step 3 s _ _ entry tail, code, out⟩
  case p1 =>
    have entry := step_hwfault s _ inputs
    obtain ⟨v, tail, code, out⟩ := run_latch_fin_latched { s with
      inputs := .cyc :: .cyc :: rest, ctx := faultEntry hw .hardware s.ctx } l rest cyc rfl rfl
    refine ⟨v, core_run_step 2 s _ _ entry tail, code, out.trans ?_⟩
    rw [faultEntry_hw]
  case p2 =>
    have entry := step_hwfault s _ inputs
    have fin := step_cycNext_part { s with
      inputs := .cyc :: rest, ctx := faultEntry hw .hardware s.ctx } .S7fin .S8 l l _ rest (.inl rfl)
      cyc rfl rfl
    refine ⟨_, core_run_step 1 s _ _ entry (core_run_one _ _ fin), ?_, ?_⟩
    · rw [finishS7_flt]
      rfl
    · rw [finishS7_out, if_pos ⟨asks, clear⟩, faultEntry_hw]

/-! ### The cycle of a TICK (R66, R86) -/

/-- The parts after a part follow one another, and the last ends the cycle (R260). -/
def Follow : Phase → List Phase → Prop
  | ph, [] => nextPhase ph = none
  | ph, q :: phs => nextPhase ph = some q ∧ Follow q phs

/-- With `settle` next, CYC takes a part and `settle` stays (R89). -/
theorem step_settle_busy (s : State) (rest : List Input) (p : InFlight)
    (h : s.inputs = .settle :: rest) (cyc : s.cyc = some p) : step s = cycStep s := by
  rw [step_settle s rest h, cyc]
  rfl

/-- The parts left of a cycle, taken one by one, are those parts run together. -/
theorem run_follow (phs : List Phase) (k : Nat) (rest : List Input) :
    ∀ (ph : Phase) (s : State) (l : Locals), Follow ph phs → s.cyc = some ⟨ph, l⟩ →
      s.inputs = .settle :: rest →
      core.run (phs.length + 1 + k) s =
        match runPhases hw (hw.freeClamp s.draws) (ph :: phs) l s.ctx with
        | .ok c => core.run k { s with ctx := c, cyc := none, draws := s.draws + 1 }
        | .error r => .refused r := by
  induction phs with
  | nil =>
    intro ph s l last cyc inputs
    have turn := step_settle_busy s rest _ inputs cyc
    rw [runPhases_cons, List.length_nil, Nat.zero_add, Nat.add_comm]
    cases part : phaseStep hw (hw.freeClamp s.draws) ph l s.ctx with
    | error r => exact core_run_refused k s r (turn.trans (cycStep_refused s ph l r cyc part))
    | ok x => exact core_run_next k s _ (turn.trans (cycStep_last s ph l x.1 x.2 cyc last part))
  | cons q phs ih =>
    intro ph s l follow cyc inputs
    obtain ⟨next, follow⟩ := follow
    have turn := step_settle_busy s rest _ inputs cyc
    rw [runPhases_cons, List.length_cons, Nat.add_right_comm _ 1 k]
    cases part : phaseStep hw (hw.freeClamp s.draws) ph l s.ctx with
    | error r => exact core_run_refused _ s r (turn.trans (cycStep_refused s ph l r cyc part))
    | ok x =>
      rw [core_run_next _ s _ (turn.trans (cycStep_part s ph q l x.1 x.2 cyc next part))]
      exact ih q { s with ctx := x.2, cyc := some ⟨q, x.1⟩ } x.1 follow rfl inputs

/-- R260: the fifteen parts in order. -/
theorem follow_cyclePhases : Follow .S1 cyclePhases.tail := by simp [Follow, cyclePhases, nextPhase]

/-- Settles O58: the TICK starts the cycle, its fifteen parts are CYCLE's, and `settle` is consumed when
they are done. -/
theorem tickPerformsCycle : Obligations.TickPerformsCycle := by
  intro s rest idle inputs
  have start : step s =
      .next { s with inputs := .settle :: rest, cyc := some ⟨.S1, Locals.fresh⟩ } := by
    rw [step_tick s _ inputs, tick, idle]
  have parts := run_follow cyclePhases.tail 1 rest .S1
    { s with inputs := .settle :: rest, cyc := some ⟨.S1, Locals.fresh⟩ } Locals.fresh
    follow_cyclePhases rfl rfl
  have whole : runPhases hw (hw.freeClamp s.draws) (.S1 :: cyclePhases.tail) Locals.fresh s.ctx =
      cycle hw (hw.freeClamp s.draws) s.ctx := rfl
  rw [whole] at parts
  have ran := core_run_step 16 s _ _ start parts
  rw [exec_cycle, ran]
  cases cycle hw (hw.freeClamp s.draws) s.ctx with
  | error r =>
    rw [outcomeOf_error]
    refine ⟨fun t done => (by cases done), fun r' refused => ?_⟩
    cases refused
    rfl
  | ok c =>
    rw [outcomeOf_ok]
    refine ⟨fun t done => ?_, fun r refused => by cases refused⟩
    cases done
    refine core_run_one _ _ ((step_settle _ rest rfl).trans ?_)
    rw [idle]
    rfl

end Sys2Proof.Proofs

/-! ## The cycle as a whole -/

namespace Sys2Proof.Proofs

open Sys2Proof.Machine

/-! ### What a completed cycle leaves, group by group -/

section Completed

variable {N : Type} (P : Params N) (fr : ClampSite → N) (c : Context N)

/-- R261, R263, R264: what S3 does hangs on no register that S1 writes. -/
theorem sampled_countCycle : sampled P (countCycle c) = countCycle (sampled P c) := by
  unfold sampled
  have same : (countCycle c).cal.CAL_DONE = c.cal.CAL_DONE := rfl
  dsimp only
  rw [same]
  split
  · rfl
  · rfl

/-- R261, R265: nor does what S4 does. -/
theorem swFaultCheck_countCycle : swFaultCheck P (countCycle c) = countCycle (swFaultCheck P c) := by
  unfold swFaultCheck
  have same : overCurrent P (countCycle c) = overCurrent P c := rfl
  rw [same]
  split
  · rfl
  · rfl

/-- R261 to R267: S1 last instead of first. -/
theorem beforeS7_eq :
    beforeS7 P c = hallStep P (updateGains P (countCycle (swFaultCheck P (sampled P c)))) := by
  rw [beforeS7, sampled_countCycle, swFaultCheck_countCycle]

theorem beforeS7_flt : (beforeS7 P c).flt = (swFaultCheck P (sampled P c)).flt := by
  simp [beforeS7_eq]

/-- R261 to R286: S7 writes none of what S1 to S6 and the observers left in these groups. -/
theorem settled_selected_groups (r : Context N × Bool)
    (h : behave P fr (behaviour (beforeS7 P c).ctl.MODE (beforeS7 P c).flt.Fault_code)
      (beforeS7 P c).ctl.MODE (selected P (beforeS7 P c)) = .ok r) (m : Word) (f st : BitVec 2) :
    (settled P m f st r).ctl.CYCLE_CNT = c.ctl.CYCLE_CNT + 1 ∧
    (settled P m f st r).meas = (sampled P c).meas ∧ (settled P m f st r).cal = (sampled P c).cal ∧
    (settled P m f st r).flt = (beforeS7 P c).flt ∧
    (settled P m f st r).gain = (sensorless P (beforeS7 P c).ctl.MODE (beforeS7 P c)).gain ∧
    (settled P m f st r).hall = (beforeS7 P c).hall := by
  obtain ⟨-, -, -, -, gain, -, -, cal, meas, hall, -, -, flt, -, -, cnt⟩ :=
    behave_frame P fr _ _ _ r h
  have counted : (beforeS7 P c).ctl.CYCLE_CNT = c.ctl.CYCLE_CNT + 1 := by simp [beforeS7, countCycle]
  have measured : (beforeS7 P c).meas = (sampled P c).meas := by
    simp [beforeS7_eq]
  have calibrated : (beforeS7 P c).cal = (sampled P c).cal := by
    simp [beforeS7_eq]
  simp only [settled_frame]
  rw [cnt, meas, cal, flt, gain, hall]
  simp [selected, counted, measured, calibrated]

/-- R266: the gains S5 leaves are those UPDATE_GAINS makes of the registers before the cycle. -/
theorem beforeS7_gain : (beforeS7 P c).gain = (updateGains P c).gain := by
  simp [beforeS7, updateGains]

theorem beforeS7_par : (beforeS7 P c).par = c.par := by simp [beforeS7]

theorem beforeS7_bw : (beforeS7 P c).bw = c.bw := by simp [beforeS7]

theorem beforeS7_tun : (beforeS7 P c).tun = c.tun := by simp [beforeS7]

/-- R181 to R186: HALL_STEP reads the code, its own state and the gain pair. -/
theorem hallStep_hall_congr (d : Context N) (smp : d.smp = c.smp) (hall : d.hall = c.hall)
    (gains : hallGains P d.gain = hallGains P c.gain) : (hallStep P d).hall = (hallStep P c).hall := by
  simp only [hallStep, smp, hall, gains]

theorem hallStep_eq : hallStep P c = { c with hall := (hallStep P c).hall } := rfl

/-- R268: the sensorless observers leave both gain pairs that the Hall PLL may read. -/
theorem hallGains_sensorless (m : Word) :
    hallGains P (sensorless P m c).gain = hallGains P c.gain := by
  simp [hallGains]

/-- R267: the Hall registers of a cycle are those HALL_STEP makes of the gains the cycle leaves. -/
theorem hallStep_of_cycle_gains (m : Word) :
    hallStep P { c with gain := (sensorless P m (beforeS7 P c)).gain } =
      { c with gain := (sensorless P m (beforeS7 P c)).gain, hall := (beforeS7 P c).hall } := by
  rw [hallStep_eq]
  have same : (hallStep P { c with gain := (sensorless P m (beforeS7 P c)).gain }).hall =
      (beforeS7 P c).hall := by
    refine hallStep_hall_congr P _ _ (by simp) (by simp) ?_
    simp [hallGains_sensorless, beforeS7]
  rw [same]

/-- No bit of MODE but READY and FAULT changes before S7 (R243). -/
theorem flag_beforeS7 (f : ModeFlag) (ready : f ≠ .READY) (fault : f ≠ .FAULT) :
    flag (beforeS7 P c).ctl.MODE f = flag c.ctl.MODE f := by
  rcases beforeS7_mode P c with ⟨mode, -⟩ | ⟨mode, -⟩
  · rw [mode]
  · rw [mode, flag_faultEntry _ f ready fault]

end Completed

/-- All that a completed CYCLE leaves in these groups, whatever the mode. -/
theorem exec_cycle_groups (s t : State) (h : exec .cycle s = .next t) :
    t.ctx.ctl.CYCLE_CNT = s.ctx.ctl.CYCLE_CNT + 1 ∧ t.ctx.meas = (sampled hw s.ctx).meas ∧
    t.ctx.cal = (sampled hw s.ctx).cal ∧ t.ctx.flt = (beforeS7 hw s.ctx).flt ∧
    t.ctx.gain = (sensorless hw (beforeS7 hw s.ctx).ctl.MODE (beforeS7 hw s.ctx)).gain ∧
    t.ctx.hall = (beforeS7 hw s.ctx).hall := by
  obtain ⟨r, done, rfl⟩ := exec_cycle_next s t h
  exact settled_selected_groups hw _ s.ctx r done _ _ _

/-! ### The idle cycle (R281) -/

/-- R281, R284: what a cycle ends in when S7 finds a fault latched or the drive not ready. -/
def idleEnd {N : Type} (P : Params N) (c : Context N) : Context N :=
  { behaveIdle P (selected P (beforeS7 P c)) with al.Align_stage := 0 }

theorem cycle_idle {N : Type} (P : Params N) (fr : ClampSite → N) (c : Context N)
    (idle : behaviour (beforeS7 P c).ctl.MODE (beforeS7 P c).flt.Fault_code = .IDLE) :
    cycle P fr c = .ok (idleEnd P c) := by
  rw [cycle_eq]
  dsimp only
  rw [idle]
  have settles : settled P (beforeS7 P c).ctl.MODE (beforeS7 P c).flt.Fault_code
      (selected P (beforeS7 P c)).al.Align_stage (behaveIdle P (selected P (beforeS7 P c)), false) =
      idleEnd P c := if_neg (by rw [idle]; decide)
  rw [← settles]
  rfl

/-- R243, R247: a fault latched, or READY clear, is so still when S7 looks. -/
theorem beforeS7_idle {N : Type} (P : Params N) (c : Context N)
    (h : c.flt.Fault_code ≠ 0 ∨ flag c.ctl.MODE .READY = false) :
    behaviour (beforeS7 P c).ctl.MODE (beforeS7 P c).flt.Fault_code = .IDLE := by
  refine behaviour_idle _ _ ?_
  rcases beforeS7_mode P c with ⟨mode, flt⟩ | ⟨-, latched⟩
  · rw [mode, flt]
    exact h.symm
  · exact .inr latched

theorem beforeS7_latched {N : Type} (P : Params N) (c : Context N) (h : c.flt.Fault_code ≠ 0) :
    (beforeS7 P c).flt.Fault_code ≠ 0 := by
  rcases beforeS7_mode P c with ⟨-, flt⟩ | ⟨-, latched⟩
  · rw [flt]
    exact h
  · exact latched

/-- R281: bits 2 to 9 of MODE are clear after the idle path. -/
theorem clearRunModes_and (m : Word) : clearRunModes m &&& 0x3FC#32 = 0#32 := by
  rw [clearRunModes_eq, BitVec.and_assoc]
  exact BitVec.and_zero

/-- R109, R281: what the idle path zeroes reads 0 at the end of the cycle. -/
theorem idleEnd_read_zeroed (c : Context F32) (r : Reg) (h : r ∈ writesOf .resetCtrl) :
    (idleEnd hw c).read r = 0#32 := by
  have apart : ∀ r ∈ writesOf .resetCtrl, r ∉ [Reg.PWM_EN, .MODE] ++ [Reg.Align_stage] := by decide
  have last := (setPwmEnAndMode_keepsOutside (resetControllers hw (selected hw (beforeS7 hw c))) false
    _).append (setAlignStage_keepsOutside (behaveIdle hw (selected hw (beforeS7 hw c))) 0)
  rw [← zero_hw, ← resetControllers_read_zeroed hw (selected hw (beforeS7 hw c)) r h]
  exact last r (apart r h)

/-! ### What a cycle that checks the currents finds (R265) -/

/-- R241, R242: S4 on the currents of S3, register by register. -/
theorem swFaultCheck_flt_hw (c : Context F32) (trips : overCurrent hw c = true) :
    (swFaultCheck hw c).flt =
      { c.flt with
        Fault_code := if c.flt.Fault_code = 1 then 1 else 2
        F_Vdc := c.meas.Vdc, F_Idc := c.meas.Idc, F_Ia := c.meas.Ia, F_Ib := c.meas.Ib
        F_Ic := c.meas.Ic, F_Wr := c.sl.Wr_sel, Fault_cnt := c.flt.Fault_cnt + 1 } := by
  rw [swFaultCheck, if_pos trips, faultEntry_hw, faultCodeUpdate_software]

/-- R281: of the outputs the idle path writes PWM_EN alone, of MODE the run modes. -/
theorem idleEnd_out {N : Type} (P : Params N) (c : Context N) :
    (idleEnd P c).out = { (beforeS7 P c).out with PWM_EN := false } := by
  simp [idleEnd, behaveIdle, selected]

theorem idleEnd_mode {N : Type} (P : Params N) (c : Context N) :
    (idleEnd P c).ctl.MODE = clearRunModes (beforeS7 P c).ctl.MODE := by
  simp [idleEnd, behaveIdle, selected]

/-- R243, R281: a cycle that trips ends with the fault's outputs and its run modes cleared. -/
theorem idleEnd_of_trip (c : Context F32) (trips : overCurrent hw (sampled hw c) = true) :
    (idleEnd hw c).out = ⟨0#32, 0#32, 0#32, false⟩ ∧
    (idleEnd hw c).ctl.MODE = ((c.ctl.MODE &&& ~~~1#32) ||| 2#32) &&& ~~~0x3FC#32 := by
  rw [idleEnd_out, idleEnd_mode, beforeS7_eq, swFaultCheck, if_pos trips, faultEntry_hw]
  refine ⟨by simp, ?_⟩
  simp only [hallStep_frame, updateGains_frame, countCycle_frame, sampled_frame, clearRunModes_eq]

/-! ### The conversions and the gains of a cycle -/

section Generic

variable {N : Type} (P : Params N) (c : Context N)

/-- R264, register by register. -/
theorem sampled_converts_registers (hd : c.cal.CAL_DONE = true) :
    (sampled P c).meas.Ia = P.mul (P.div (P.sub (P.ofInt c.smp.ADC_RAW0.toNat) c.cal.ADC1_Offset0)
      (P.ofDecimal 819 10)) c.smp.ADC_GAIN0 ∧
    (sampled P c).meas.Ib = P.mul (P.div (P.sub (P.ofInt c.smp.ADC_RAW1.toNat) c.cal.ADC1_Offset1)
      (P.ofDecimal 819 10)) c.smp.ADC_GAIN1 ∧
    (sampled P c).meas.Ic = P.mul (P.div (P.sub (P.ofInt c.smp.ADC_RAW2.toNat) c.cal.ADC1_Offset2)
      (P.ofDecimal 819 10)) c.smp.ADC_GAIN2 ∧
    (sampled P c).meas.Vdc_lpf = P.add (P.mul (P.ofDecimal 999 1000) c.meas.Vdc_lpf)
      (P.mul (P.sub (P.ofDecimal 1 1) (P.ofDecimal 999 1000))
        (P.div (P.ofInt c.smp.ADC_RAW3.toNat) (P.ofDecimal 2034 10))) ∧
    (sampled P c).meas.Vdc = P.mul (sampled P c).meas.Vdc_lpf c.smp.ADC_GAIN3 ∧
    (sampled P c).meas.Idc = c.meas.Idc := by
  obtain ⟨-, meas⟩ := sampled_converts P c hd
  rw [meas]
  exact ⟨rfl, rfl, rfl, rfl, rfl, rfl⟩

/-- R266, R268: the gains a cycle leaves, the ten of R108 and, in a sensorless cycle, the two of R211. -/
theorem sensorless_beforeS7_gain :
    (sensorless P (beforeS7 P c).ctl.MODE (beforeS7 P c)).gain =
      { (updateGains P c).gain with
        Kp_eemf := if flag c.ctl.MODE .SENSORLESS then P.mul c.par.Ld c.bw.Wc_eemf else c.gain.Kp_eemf
        Ki_eemf := if flag c.ctl.MODE .SENSORLESS then P.mul c.par.Rs c.bw.Wc_eemf
          else c.gain.Ki_eemf } := by
  rw [sensorless_gain, flag_beforeS7 P c .SENSORLESS (by decide) (by decide), beforeS7_gain,
    beforeS7_par, beforeS7_bw]
  rfl

end Generic

/-! ### The obligations -/

/-- R270: a behaviour whose flag is clear is not chosen. -/
theorem behaviour_ne_of_flag (m : Word) (f : BitVec 2) :
    (flag m .VREF_GEN = false → behaviour m f ≠ .VREF_GEN) ∧
    (flag m .PARAM_EST = false → behaviour m f ≠ .PARAM_EST) := by
  unfold behaviour
  grind

/-- Settles O43: the mode S7 reads selects neither undescribed behaviour, and every other completes when
CC_LPF is 0. -/
theorem cycleCompletes : Obligations.CycleCompletes := by
  intro s lpf noVref noParam
  have described := behaviour_ne_of_flag (beforeS7 hw s.ctx).ctl.MODE (beforeS7 hw s.ctx).flt.Fault_code
  rw [flag_beforeS7 _ _ _ (by decide) (by decide), flag_beforeS7 _ _ _ (by decide) (by decide)]
    at described
  obtain ⟨r, done⟩ := behave_completes hw (hw.freeClamp s.draws) _ (beforeS7 hw s.ctx).ctl.MODE
    (selected hw (beforeS7 hw s.ctx)) (by simpa [selected, beforeS7_tun] using lpf)
    (described.1 noVref) (described.2 noParam)
  have completes : exec .cycle s = .next { s with
      ctx := settled hw (beforeS7 hw s.ctx).ctl.MODE (beforeS7 hw s.ctx).flt.Fault_code
        (selected hw (beforeS7 hw s.ctx)).al.Align_stage r } := by
    rw [exec_cycle, cycle_eq]
    dsimp only
    rw [done]
    rfl
  exact ⟨_, completes, rfl, (exec_cycle_groups s _ completes).1⟩

/-- Settles O44: what latched or was not ready is so when S7 looks, so the behaviour is IDLE. -/
theorem latchedOrNotReadyCycleIsIdle : Obligations.LatchedOrNotReadyCycleIsIdle := by
  intro s h
  have idle := cycle_idle hw (hw.freeClamp s.draws) s.ctx (beforeS7_idle hw s.ctx h)
  have completes : exec .cycle s = .next { s with ctx := idleEnd hw s.ctx } := by
    rw [exec_cycle, idle, outcomeOf_ok]
  refine ⟨_, completes, rfl, clearRunModes_and _, rfl, fun r hr => idleEnd_read_zeroed s.ctx r hr,
    fun latched => ?_⟩
  obtain ⟨-, -, -, flt, -⟩ := exec_cycle_groups s _ completes
  rw [flt]
  exact beforeS7_latched hw s.ctx latched

/-- Settles O45: a fault latched at the end was latched when S7 looked, and the idle path disabled the
output. -/
theorem outputDisabledAfterCompleteCycle : Obligations.OutputDisabledAfterCompleteCycle := by
  intro s t h latched
  obtain ⟨-, -, -, flt, -⟩ := exec_cycle_groups s t h
  rw [flt] at latched
  have idle := cycle_idle hw (hw.freeClamp s.draws) s.ctx (behaviour_idle _ _ (.inr latched))
  rw [exec_cycle, idle, outcomeOf_ok] at h
  cases h
  rfl

/-- What calibration leaves of a register file whose count is not at its end (R263). -/
theorem exec_cycle_calibrates (s t : State) (h : exec .cycle s = .next t)
    (pending : s.ctx.cal.CAL_DONE = false) :
    t.ctx.meas = s.ctx.meas ∧ t.ctx.cal.CAL_CNT = s.ctx.cal.CAL_CNT + 1 ∧
      t.ctx.cal.CAL_DONE = (s.ctx.cal.CAL_CNT + 1 == 10000#32) := by
  obtain ⟨-, meas, cal, -⟩ := exec_cycle_groups s t h
  obtain ⟨meas', cal'⟩ := sampled_calibrates hw s.ctx pending
  obtain ⟨cnt, done, -⟩ := calibrate_spec hw _ s.ctx.cal pending
  rw [meas, cal, meas', cal']
  exact ⟨rfl, cnt, done⟩

/-- Settles O46, by induction on the cycles: before cycle `n` the count is `n - 1` and CAL_DONE is 0. -/
theorem calibrationCompletesAtTenThousand : Obligations.CalibrationCompletesAtTenThousand := by
  intro before after cnt done runs kept
  have counted : ∀ n, n < 10000 → (before (n + 1)).ctx.cal.CAL_CNT = BitVec.ofNat 32 n ∧
      (before (n + 1)).ctx.cal.CAL_DONE = false := by
    intro n hn
    induction n with
    | zero => exact ⟨cnt, done⟩
    | succ n ih =>
      obtain ⟨cnt, pending⟩ := ih (by omega)
      obtain ⟨-, cnt', done'⟩ := exec_cycle_calibrates _ _ (runs (n + 1) (by omega) (by omega)) pending
      rw [kept (n + 1) (by omega) (by omega), cnt', done', cnt]
      have next : BitVec.ofNat 32 n + 1 = BitVec.ofNat 32 (n + 1) := by bv_omega
      refine ⟨next, beq_eq_false_iff_ne.2 ?_⟩
      rw [next]
      bv_omega
  have cycles : ∀ n, n < 10000 → (after (n + 1)).ctx.meas = (before (n + 1)).ctx.meas ∧
      (after (n + 1)).ctx.cal.CAL_DONE = (BitVec.ofNat 32 n + 1 == 10000#32) := by
    intro n hn
    obtain ⟨cnt, pending⟩ := counted n hn
    obtain ⟨meas, -, done⟩ := exec_cycle_calibrates _ _ (runs (n + 1) (by omega) (by omega)) pending
    exact ⟨meas, cnt ▸ done⟩
  refine ⟨fun n lo hi => ?early, (cycles 9999 (by omega)).2⟩
  case early =>
    obtain ⟨n, rfl⟩ : ∃ k, n = k + 1 := ⟨n - 1, by omega⟩
    obtain ⟨meas, done⟩ := cycles n (by omega)
    exact ⟨done.trans (beq_eq_false_iff_ne.2 (by bv_omega)), meas⟩

/-- R265: what a cycle leaves of the fault registers, and where its check trips of the outputs and MODE. -/
theorem exec_cycle_checks (s t : State) (h : exec .cycle s = .next t) :
    (overCurrent hw (sampled hw s.ctx) = true →
      t.ctx.flt = { s.ctx.flt with
        Fault_code := if s.ctx.flt.Fault_code = 1 then 1 else 2
        F_Vdc := t.ctx.meas.Vdc, F_Idc := t.ctx.meas.Idc, F_Ia := t.ctx.meas.Ia
        F_Ib := t.ctx.meas.Ib, F_Ic := t.ctx.meas.Ic, F_Wr := s.ctx.sl.Wr_sel
        Fault_cnt := s.ctx.flt.Fault_cnt + 1 } ∧
      t.ctx.out = ⟨0#32, 0#32, 0#32, false⟩ ∧
      t.ctx.ctl.MODE = ((s.ctx.ctl.MODE &&& ~~~1#32) ||| 2#32) &&& ~~~0x3FC#32) ∧
    (overCurrent hw (sampled hw s.ctx) = false → t.ctx.flt = s.ctx.flt) := by
  obtain ⟨-, meas, -, flt, -⟩ := exec_cycle_groups s t h
  refine ⟨fun trips => ?trip, fun calm => ?calm⟩
  case trip =>
    have latched := swFaultCheck_flt_hw _ trips
    rw [← beforeS7_flt, ← flt] at latched
    have code : (beforeS7 hw s.ctx).flt.Fault_code ≠ 0 := by
      rw [← flt, latched]
      dsimp only
      split
      · decide
      · decide
    have idle := cycle_idle hw (hw.freeClamp s.draws) s.ctx (behaviour_idle _ _ (.inr code))
    rw [exec_cycle, idle, outcomeOf_ok] at h
    obtain rfl := Host.Outcome.next.inj h
    refine ⟨?_, idleEnd_of_trip s.ctx trips⟩
    rw [latched, meas]
    simp only [sampled_frame]
  case calm =>
    rw [flt, beforeS7_flt, swFaultCheck, if_neg (by simp [calm])]
    simp only [sampled_frame]

/-- Settles O42, clause by clause: the groups a completed cycle leaves are those of its steps S1 to S6, and of
the observers (R268). -/
theorem everyCycleSamplesAndObserves : Obligations.EveryCycleSamplesAndObserves := by
  intro s t h
  dsimp only
  obtain ⟨cnt, meas, cal, -, gain, hall⟩ := exec_cycle_groups s t h
  obtain ⟨trip, calm⟩ := exec_cycle_checks s t h
  have trips_iff := overCurrent_iff hw (sampled hw s.ctx)
  rw [← meas] at trips_iff
  refine ⟨(execWritesOnlyItsRegisters .cycle s t h).1, cnt, fun pending => ?calibrates,
    fun ready => ?converts, ⟨fun trips => trip (trips_iff.2 trips), fun quiet => ?quiet⟩, ?gain, ?hall⟩
  case calibrates =>
    obtain ⟨meas', cal'⟩ := sampled_calibrates hw s.ctx pending
    obtain ⟨count, done, sums, keep, offsets, -⟩ := calibrate_spec hw { Locals.fresh with
      raw0 := s.ctx.smp.ADC_RAW0, raw1 := s.ctx.smp.ADC_RAW1, raw2 := s.ctx.smp.ADC_RAW2
      raw3 := s.ctx.smp.ADC_RAW3 } s.ctx.cal pending
    rw [meas, cal, meas', cal']
    exact ⟨rfl, count, done, sums, keep, offsets⟩
  case converts =>
    rw [meas, cal]
    exact ⟨(sampled_converts hw s.ctx ready).1, sampled_converts_registers hw s.ctx ready⟩
  case quiet => exact calm (Bool.eq_false_iff.2 (fun trips => quiet (trips_iff.1 trips)))
  case gain => exact gain.trans (sensorless_beforeS7_gain hw s.ctx)
  case hall =>
    rw [exec_hallStep, gain, hall]
    exact congrArg (fun c => Host.Outcome.next { s with ctx := c }) (hallStep_of_cycle_gains hw s.ctx _)

end Sys2Proof.Proofs

/-! ## Rounding to binary32 (R7) -/

namespace Sys2Proof.Proofs

open Sys2Proof.Machine Sys2Proof.Machine.Binary32

/-! ### The nearest integer to a quotient -/

/-- `roundHalfEven` rounds down, and then the remainder is at most half of `den`, or up, and then at least. -/
theorem roundHalfEven_cases (num den : Nat) :
    roundHalfEven num den = num / den ∧ 2 * (num % den) ≤ den ∨
      roundHalfEven num den = num / den + 1 ∧ den ≤ 2 * (num % den) := by
  unfold roundHalfEven
  split
  · omega
  · split
    · omega
    · omega

theorem roundHalfEven_nearest (num den z : Nat) (positive : 0 < den) :
    |(den : Int) * roundHalfEven num den - num| ≤ |(den : Int) * z - num| := by
  have split : (num : Int) = den * (num / den : Nat) + (num % den : Nat) := by
    exact_mod_cast (Nat.div_add_mod num den).symm
  have apart : (den : Int) * z ≤ den * (num / den : Nat) ∨
      (den : Int) * (num / den : Nat) + den ≤ den * z := by
    rcases Nat.lt_or_ge (num / den) z with above | below
    · exact .inr (by exact_mod_cast Nat.mul_le_mul_left den above)
    · exact .inl (by exact_mod_cast Nat.mul_le_mul_left den below)
  have rest := Nat.mod_lt num positive
  rw [Int.abs_eq_natAbs, Int.abs_eq_natAbs]
  rcases roundHalfEven_cases num den with ⟨down, half⟩ | ⟨up, half⟩
  · rw [down]
    omega
  · rw [up, Nat.cast_succ, mul_add, mul_one]
    omega

/-! ### The magnitudes of binary32 -/

/-- A significand `n` at the exponent `k`; `2 ^ 24` is the carry into the exponent field. -/
theorem magOf_significand (k n : Nat) (le : n ≤ 2 ^ 24) (normal : k = 0 ∨ 2 ^ 23 ≤ n) :
    magOf (k * 2 ^ 23 + n) = n * 2 ^ k := by
  unfold magOf
  rcases Nat.lt_or_ge n (2 ^ 23) with subnormal | normal
  · obtain rfl : k = 0 := by omega
    rw [if_pos (by omega)]
    omega
  · rcases Nat.lt_or_eq_of_le le with inside | rfl
    · have exponent : (k * 2 ^ 23 + n) / 2 ^ 23 = k + 1 := by omega
      rw [if_neg (by omega), exponent]
      congr 1
      omega
    · have exponent : (k * 2 ^ 23 + 2 ^ 24) / 2 ^ 23 = k + 2 := by omega
      have fraction : (k * 2 ^ 23 + 2 ^ 24) % 2 ^ 23 = 0 := by omega
      rw [if_neg (by omega), exponent, fraction, Nat.add_sub_assoc (by decide), pow_add]
      omega

/-- Every magnitude from `2 ^ (23 + k)` on is a multiple of `2 ^ k`. -/
theorem magOf_multiple_or_small (b k : Nat) :
    (∃ z, magOf b = z * 2 ^ k) ∨ k ≠ 0 ∧ magOf b < 2 ^ 23 * 2 ^ k := by
  obtain ⟨j, n, rfl, lt, normal⟩ : ∃ j n, b = j * 2 ^ 23 + n ∧ n < 2 ^ 24 ∧ (j = 0 ∨ 2 ^ 23 ≤ n) := by
    rcases Nat.lt_or_ge b (2 ^ 23) with subnormal | normal
    · exact ⟨0, b, by omega, by omega, .inl rfl⟩
    · exact ⟨b / 2 ^ 23 - 1, b % 2 ^ 23 + 2 ^ 23, by omega, by omega, .inr (by omega)⟩
  rw [magOf_significand j n lt.le normal]
  rcases Nat.lt_or_ge j k with finer | coarser
  · refine .inr ⟨by omega, ?_⟩
    calc n * 2 ^ j < 2 ^ 24 * 2 ^ j := Nat.mul_lt_mul_of_pos_right lt (by positivity)
      _ = 2 ^ 23 * 2 ^ (j + 1) := by ring
      _ ≤ 2 ^ 23 * 2 ^ k := Nat.mul_le_mul_left _ (Nat.pow_le_pow_right (by decide) finer)
  · refine .inl ⟨n * 2 ^ (j - k), ?_⟩
    rw [mul_assoc, ← pow_add, Nat.sub_add_cancel coarser]

theorem magOf_zero : magOf 0 = 0 := rfl

/-! ### The rounding of a magnitude -/

/-- The exponent of the unit in the last place of `num / den`. -/
def unitExponent (num den : Nat) : Nat := Nat.log2 (num / den) - 23

/-- `num / den` as a rounded number of those units. -/
def significand (num den : Nat) : Nat := roundHalfEven num (den * 2 ^ unitExponent num den)

theorem roundMag_eq (num den : Nat) : roundMag num den =
    Nat.min (unitExponent num den * 2 ^ 23 + significand num den) 0x7F800000 := rfl

/-- Where the unit is not the subnormal one, the quotient is at least `2 ^ 23` units. -/
theorem units_le (num den : Nat) (above : unitExponent num den ≠ 0) :
    2 ^ 23 * 2 ^ unitExponent num den ≤ num / den := by
  have log : Nat.log2 (num / den) = 23 + unitExponent num den := by
    unfold unitExponent at *
    omega
  rw [← pow_add, ← log]
  refine Nat.log2_self_le ?_
  rintro zero
  simp [unitExponent, zero] at above

theorem units_lt (num den : Nat) : num / den / 2 ^ unitExponent num den < 2 ^ 24 := by
  refine Nat.div_lt_of_lt_mul ?_
  rw [← pow_add]
  refine lt_of_lt_of_le Nat.lt_log2_self (Nat.pow_le_pow_right (by decide) ?_)
  unfold unitExponent
  omega

theorem significand_bounds (num den : Nat) : significand num den ≤ 2 ^ 24 ∧
    (unitExponent num den = 0 ∨ 2 ^ 23 ≤ significand num den) := by
  have near : num / den / 2 ^ unitExponent num den ≤ significand num den ∧
      significand num den ≤ num / den / 2 ^ unitExponent num den + 1 := by
    rw [Nat.div_div_eq_div_mul, significand]
    rcases roundHalfEven_cases num (den * 2 ^ unitExponent num den) with ⟨down, -⟩ | ⟨up, -⟩
    · omega
    · omega
  refine ⟨near.2.trans (units_lt num den), or_iff_not_imp_left.2 fun above => ?_⟩
  exact ((Nat.le_div_iff_mul_le (by positivity)).2 (units_le num den above)).trans near.1

theorem magOf_roundMag (num den : Nat) (finite : roundMag num den < 0x7F800000) :
    magOf (roundMag num den) = significand num den * 2 ^ unitExponent num den := by
  have unclipped : roundMag num den = unitExponent num den * 2 ^ 23 + significand num den := by
    refine (roundMag_eq num den).trans (Nat.min_eq_left (le_of_not_gt fun overflows => ?_))
    exact finite.ne ((roundMag_eq num den).trans (Nat.min_eq_right overflows.le))
  obtain ⟨le, normal⟩ := significand_bounds num den
  rw [unclipped, magOf_significand _ _ le normal]

/-- No magnitude is nearer to `num / den` than the rounded one: the multiples of the unit are the candidates of
`roundHalfEven`, and the magnitudes below them are farther away than the least normal one, which is a
candidate too. -/
theorem roundMag_nearest (num den b : Nat) (positive : 0 < den) (finite : roundMag num den < 0x7F800000) :
    |(den : Int) * magOf (roundMag num den) - num| ≤ |(den : Int) * magOf b - num| := by
  have nearest (z : Nat) := roundHalfEven_nearest num (den * 2 ^ unitExponent num den) z (by positivity)
  have scaledUp (z : Nat) : ((den * 2 ^ unitExponent num den : Nat) : Int) * z =
      den * (z * 2 ^ unitExponent num den : Nat) := by
    push_cast
    ring
  simp only [scaledUp] at nearest
  rw [magOf_roundMag num den finite]
  rcases magOf_multiple_or_small b (unitExponent num den) with ⟨z, multiple⟩ | ⟨above, small⟩
  · rw [multiple]
    exact nearest z
  · refine (nearest (2 ^ 23)).trans ?_
    have least : den * (2 ^ 23 * 2 ^ unitExponent num den) ≤ num :=
      (Nat.mul_le_mul_left den (units_le num den above)).trans (Nat.mul_div_le num den)
    have farther : den * magOf b ≤ den * (2 ^ 23 * 2 ^ unitExponent num den) :=
      Nat.mul_le_mul_left den small.le
    zify at least farther ⊢
    rw [Int.abs_eq_natAbs, Int.abs_eq_natAbs]
    omega

/-! ### Signs -/

/-- The integer of a sign and a magnitude. -/
def signed (s : Bool) (n : Nat) : Int := if s then -(n : Int) else (n : Int)

theorem scaled_eq (w : F32) : scaled w = signed (sign w) (mag w) := rfl

theorem signed_mul (s t : Bool) (m n : Nat) : signed s m * signed t n = signed (s != t) (m * n) := by
  cases s
  · cases t <;> simp [signed]
  · cases t <;> simp [signed]

theorem signed_natAbs (z : Int) : signed (decide (z < 0)) z.natAbs = z := by
  unfold signed
  split
  case isTrue negative =>
    have := of_decide_eq_true negative
    omega
  case isFalse nonneg =>
    have := of_decide_eq_false (Bool.eq_false_iff.2 nonneg)
    omega

/-- Only whether the two signs differ counts in a distance. -/
theorem abs_mul_signed_sub (s t : Bool) (d m n : Nat) :
    |(d : Int) * signed s m - signed t n| = |(d : Int) * signed (s != t) m - n| := by
  cases t
  case false => simp [signed]
  case true =>
    rw [← abs_neg]
    congr 1
    cases s
    · simp [signed]
      ring
    · simp [signed]
      ring

/-- The sign of a factor may be moved to the subtrahend. -/
theorem abs_signed_mul_sub (s t : Bool) (m n : Nat) (y : Int) :
    |signed s m * y - signed t n| = |(m : Int) * y - signed (t != s) n| := by
  cases s
  case false => simp [signed]
  case true =>
    rw [← abs_neg]
    congr 1
    cases t
    · simp [signed]
      ring
    · simp [signed]
      ring

theorem low31_pack (s : Bool) (b : Nat) (h : b < 2 ^ 31) : low31 (pack s b) = b := by
  unfold low31 pack
  cases s
  · simp; omega
  · simp; omega

theorem sign_pack (s : Bool) (b : Nat) (h : b < 2 ^ 31) : sign (pack s b) = s := by
  unfold sign pack
  rw [BitVec.getLsbD_ofNat, Nat.testBit_eq_decide_div_mod_eq]
  cases s
  · simp; omega
  · simp; omega

theorem scaled_pack (s : Bool) (b : Nat) (h : b < 2 ^ 31) : scaled (pack s b) = signed s (magOf b) := by
  rw [scaled_eq, sign_pack s b h, mag, low31_pack s b h]

theorem roundMag_lt (num den : Nat) : roundMag num den < 2 ^ 31 :=
  lt_of_le_of_lt (Nat.min_le_right _ _) (by decide)

/-- A number of the other sign is no nearer than 0, which is a magnitude. -/
theorem pack_roundMag_nearest (s : Bool) (num den : Nat) (x : F32) (positive : 0 < den)
    (finite : isFinite (pack s (roundMag num den)) = true) :
    |(den : Int) * scaled (pack s (roundMag num den)) - signed s num| ≤
      |(den : Int) * scaled x - signed s num| := by
  have below := of_decide_eq_true finite
  rw [low31_pack _ _ (roundMag_lt num den)] at below
  have samesign := roundMag_nearest num den (low31 x) positive below
  have zero := roundMag_nearest num den 0 positive below
  rw [magOf_zero, Nat.cast_zero, mul_zero] at zero
  rw [scaled_pack _ _ (roundMag_lt num den), scaled_eq x, mag, abs_mul_signed_sub, abs_mul_signed_sub,
    bne_self_eq_false]
  cases sign x != s
  case false => exact samesign
  case true =>
    have opposite : |(0 : Int) - num| ≤ |(den : Int) * -magOf (low31 x) - num| := by
      have nonneg : 0 ≤ (den : Int) * magOf (low31 x) := by positivity
      rw [mul_neg, Int.abs_eq_natAbs, Int.abs_eq_natAbs]
      omega
    exact zero.trans opposite

/-! ### The operators on finite operands -/

theorem not_nan_not_inf (a : F32) (h : isFinite a = true) : isNaN a = false ∧ isInf a = false := by
  have lt := of_decide_eq_true h
  exact ⟨decide_eq_false (by omega), beq_false_of_ne (by omega)⟩

section Finite

variable (a b : F32) (ha : isFinite a = true) (hb : isFinite b = true)

include ha hb

theorem add_of_finite : add a b = ofScaled (scaled a + scaled b) (sign a && sign b) := by
  simp [add, addCore, not_nan_not_inf a ha, not_nan_not_inf b hb]

theorem mul_of_finite :
    mul a b = pack (sign a != sign b) (roundMag (mag a * mag b) (2 ^ 149)) := by
  simp [mul, not_nan_not_inf a ha, not_nan_not_inf b hb]

theorem div_of_finite (h : mag b ≠ 0) :
    div a b = pack (sign a != sign b) (roundMag (mag a * 2 ^ 149) (mag b)) := by
  have nonzero : low31 b ≠ 0 := fun zero => h (by rw [mag, zero]; rfl)
  simp [div, not_nan_not_inf a ha, not_nan_not_inf b hb, nonzero]

end Finite

theorem ofScaled_nearest (e : Int) (z : Bool) (x : F32) (finite : isFinite (ofScaled e z) = true) :
    |scaled (ofScaled e z) - e| ≤ |scaled x - e| := by
  rcases eq_or_ne e 0 with rfl | nonzero
  · have exact : scaled (ofScaled 0 z) = 0 := by
      rw [ofScaled, if_pos rfl, scaled_pack _ _ (by decide)]
      simp [signed, magOf]
    rw [exact]
    simp
  · rw [ofScaled, if_neg nonzero] at *
    simpa [signed_natAbs] using pack_roundMag_nearest _ e.natAbs 1 x Nat.one_pos finite

/-- Settles O60: each operator packs the rounded magnitude of the exact result under its sign. -/
theorem binaryThirtyTwoRoundsToNearest : Obligations.BinaryThirtyTwoRoundsToNearest := by
  intro a b x ha hb _
  have hadd : hw.add a b = add a b := rfl
  have hmul : hw.mul a b = mul a b := rfl
  have hdiv : hw.div a b = div a b := rfl
  rw [hadd, hmul, hdiv, add_of_finite a b ha hb, mul_of_finite a b ha hb]
  refine ⟨ofScaled_nearest _ _ x, fun finite => ?product, fun nonzero finite => ?quotient⟩
  case product =>
    rw [scaled_eq a, scaled_eq b, signed_mul]
    exact pack_roundMag_nearest _ _ (2 ^ 149) x (by positivity) finite
  case quotient =>
    have positive : mag b ≠ 0 := fun zero => nonzero (by simp [scaled_eq, zero, signed])
    rw [div_of_finite a b ha hb positive] at *
    have exact : 2 ^ 149 * scaled a = signed (sign a) (mag a * 2 ^ 149) := by
      rw [scaled_eq]
      cases sign a
      · simp [signed, mul_comm]
      · simp [signed, mul_comm]
    rw [exact, scaled_eq b, abs_signed_mul_sub, abs_signed_mul_sub]
    exact pack_roundMag_nearest _ _ _ x (Nat.pos_of_ne_zero positive) finite

end Sys2Proof.Proofs
